-- ==== Sys2Proof/Word.lean ====
section
/-! DEFINITION. The value types of the block's ports and its five word formats (00_scope.md R8 to R10,
30_encoding.md R70). Bit 0 is the least significant bit and every value is unsigned (R9, R10). -/

namespace Sys2Proof

/-- `ROLE_W`, the width of a role code (R8, D4). -/
abbrev roleW : Nat := 8

/-- A `PORTID` value, `PORT_ID_W` = 8 bits (R32, D2). Only 0x00 to 0x0F are identifiers (R54). -/
abbrev PortId := BitVec 8

/-- A physical pin number, unsigned and without fields (R78). Its width `PIN_W` is a parameter of the profile, so the
type is Nat; no rule computes with a pin, rules only compare it. DESIGN CHOICE (log entry 1). -/
abbrev Pin := Nat

/-- A pin role code (R79). -/
abbrev Role := BitVec roleW

/-- A configuration token, "opaque": a number with no field the block interprets (R80). Its width `CFG_W` is a
parameter of the profile. DESIGN CHOICE (log entry 1). -/
abbrev Cfg := Nat

/-- A LineOptions word, `OPT_W` = 16 bits (R71). -/
abbrev LineOptions := BitVec 16

/-- The first byte of a port-addressed command (R81). -/
abbrev CommandByte := BitVec 8

/-- The index of a hardware port, 0..7 (R24). -/
abbrev PortIdx := Fin 8

/-- A PinPair, receive pin first (R13, R32). -/
structure PinPair where
  rx : Pin
  tx : Pin
  deriving DecidableEq, Repr

/-- The sentinel pair (0, 0), "unavailable" (R78, R101). -/
def PinPair.sentinel : PinPair := ⟨0, 0⟩

/-- A word in one of the five formats of R70. The format is what selects the unit: "No operation-select
field exists", so a word is always read together with the input it is carried on. -/
inductive InputWord where
  /-- `LINEOPT`, carried on LCE's `options`. -/
  | lineOpt (options : LineOptions)
  /-- `PORTID`, carried on PTAB's `port_id`. -/
  | portId (id : PortId)
  /-- `PIN`, carried on PROLE's `pin`; the decoder takes it only if it has `PIN_W` bits. -/
  | pin (pin : Pin)
  /-- `CMD`, an interface constant on no input of the block (R84). -/
  | cmd (byte : CommandByte)
  /-- `CMD_SUBMODE`, an interface constant on no input of the block (R83, R84). -/
  | cmdSubMode (mode : BitVec 8)
  deriving DecidableEq, Repr

/-- What a unit returns to the requester (R196). -/
inductive Output where
  /-- PTAB's `(rx_pin, tx_pin)`. -/
  | pins (pair : PinPair)
  /-- PROLE's `role`. -/
  | role (code : Role)
  /-- LCE's `cfg`. -/
  | cfg (token : Cfg)
  deriving DecidableEq, Repr

end Sys2Proof
end

