-- ==== Sys2Proof/Config.lean ====
section
/-! DEFINITION. The board profile `P`, what an implementation fixes when the block is built (10_state.md R24 to
R31), and the one profile that `State.reset` holds. Every open value of the spec is a field of the profile, so
the model needs no constant without a body: statements quantify over the profile in the state. -/

namespace Sys2Proof

/-- The parity codes the source defines (30_encoding.md R74). -/
inductive Parity where
  | noParity | even | odd | mark | space
  deriving DecidableEq, Repr

/-- The stop-bits codes that are recognised (R75). -/
inductive StopBits where
  | one | two
  deriving DecidableEq, Repr

/-- The data-bits codes that are recognised (R73). -/
inductive DataBits where
  | five | six | seven | eight
  deriving DecidableEq, Repr

/-- Receive or transmit. -/
inductive Dir where
  | rx | tx
  deriving DecidableEq, Repr

/-- The ports that have role codes and may be present in this edition (R25, R29, R124). -/
inductive SerialPort where
  | one | two | three
  deriving DecidableEq, Repr

/-- One hardware port of the profile (R25, R26). The pins of an absent port are never read. -/
structure PortEntry where
  present : Bool
  rx : Pin
  tx : Pin
  deriving DecidableEq, Repr

/-- A row of the token table, by data bits. -/
structure DataTokens where
  five : Option Cfg
  six : Option Cfg
  seven : Option Cfg
  eight : Option Cfg
  deriving DecidableEq, Repr

/-- The tokens of one parity, by stop bits. -/
structure StopTokens where
  one : DataTokens
  two : DataTokens
  deriving DecidableEq, Repr

/-- `P.token` at the keys that can be read (R28). "Entries at other keys are never read" (D9), so they
have no place here (log entry 2). -/
structure TokenTable where
  noParity : StopTokens
  even : StopTokens
  odd : StopTokens
  mark : StopTokens
  space : StopTokens
  deriving DecidableEq, Repr

/-- `P.role_code` (R29), its defaults RX of p = 2p and TX of p = 2p + 1. -/
structure RoleCodes where
  rx1 : Role := 0x02
  tx1 : Role := 0x03
  rx2 : Role := 0x04
  tx2 : Role := 0x05
  rx3 : Role := 0x06
  tx3 : Role := 0x07
  deriving DecidableEq, Repr

/-- The board profile `P`, "the block's only stored information" (R24), with the two widths that are parameters of the
block beside it (R8). -/
structure Profile where
  /-- `PIN_W`, the width of a pin number: default 8, OPEN (R8, D3). -/
  pinW : Nat := 8
  /-- `CFG_W`, the width of a configuration token: default 8, OPEN (R8, D10). -/
  cfgW : Nat := 8
  ports : Vector PortEntry 8
  extParity : Bool
  tokens : TokenTable
  roleCodes : RoleCodes
  deriving DecidableEq, Repr

/-- The named checks of `WF(P)` (R30), and one for each width that a profile must fit (D3, D10). -/
inductive WfCheck where
  /-- `WF_PORT0`. -/
  | port0
  /-- `WF_HIGH`. -/
  | high
  /-- `WF_PAIR`. -/
  | pair
  /-- `WF_DEFAULT`. -/
  | defaultToken
  /-- `WF_ROLE`. -/
  | role
  /-- A present port's pin has more than `PIN_W` bits (R24, D3). -/
  | pinWidth
  /-- A token that LCE can read has more than `CFG_W` bits (R24, D10). -/
  | cfgWidth
  deriving DecidableEq, Repr

/-- A port that is not compiled in. -/
def PortEntry.absent : PortEntry := ⟨false, 0, 0⟩

/-- No token for any data width. -/
def DataTokens.empty : DataTokens := ⟨none, none, none, none⟩

/-- No token for any stop code. -/
def StopTokens.empty : StopTokens := ⟨.empty, .empty⟩

/-- The informative AVR tokens of 93_implementation_defined.md section 2, item 4. PRESUMED (log entry 3). -/
def Config.avrTokens : TokenTable where
  noParity := ⟨⟨some 0x00, some 0x02, some 0x04, some 0x06⟩, ⟨some 0x08, some 0x0A, some 0x0C, some 0x0E⟩⟩
  even := ⟨⟨some 0x20, some 0x22, some 0x24, some 0x26⟩, ⟨some 0x28, some 0x2A, some 0x2C, some 0x2E⟩⟩
  odd := ⟨⟨some 0x30, some 0x32, some 0x34, some 0x36⟩, ⟨some 0x38, some 0x3A, some 0x3C, some 0x3E⟩⟩
  mark := .empty
  space := .empty

/-- The profile `State.reset` holds: the fixture TP_A of 95_test_vectors.md with the AVR example tokens.
PRESUMED and unsafe (log entry 3): the spec leaves the board open. -/
def Config.resetProfile : Profile where
  ports := #v[.absent, ⟨true, 19, 18⟩, ⟨true, 17, 16⟩, ⟨true, 15, 14⟩, .absent, .absent, .absent, .absent]
  extParity := false
  tokens := Config.avrTokens
  roleCodes := {}

end Sys2Proof
end

