-- ==== Sys2Proof/Machine/Board.lean ====
section
/-! DEFINITION. Reading the board profile, its well-formedness `WF(P)` (10_state.md R24 to R30) and the widths it must
fit (00_scope.md R8). These are the only reads of the profile; nothing writes it (R31, 20_memory.md R52). -/

namespace Sys2Proof

/-- The hardware index of a port with role codes. -/
def SerialPort.idx : SerialPort → PortIdx
  | .one => 1
  | .two => 2
  | .three => 3

/-- The three ports with role codes, in the order of R121. -/
def SerialPort.all : List SerialPort := [.one, .two, .three]

/-- `P.present[p]` (R25). -/
def Profile.present (P : Profile) (p : PortIdx) : Bool := P.ports[p].present

/-- `P.rx[p]` (R26). -/
def Profile.rx (P : Profile) (p : PortIdx) : Pin := P.ports[p].rx

/-- `P.tx[p]` (R26). -/
def Profile.tx (P : Profile) (p : PortIdx) : Pin := P.ports[p].tx

/-- The pair `(P.rx[p], P.tx[p])`, from one entry (20_memory.md R57). -/
def Profile.pins (P : Profile) (p : PortIdx) : PinPair := ⟨P.rx p, P.tx p⟩

/-- The pin of port `p` in direction `d`. -/
def Profile.pinOf (P : Profile) (p : SerialPort) : Dir → Pin
  | .rx => P.rx p.idx
  | .tx => P.tx p.idx

/-- `P.role_code(p, dir)` (R29). -/
def Profile.roleCode (P : Profile) : SerialPort → Dir → Role
  | .one, .rx => P.roleCodes.rx1
  | .one, .tx => P.roleCodes.tx1
  | .two, .rx => P.roleCodes.rx2
  | .two, .tx => P.roleCodes.tx2
  | .three, .rx => P.roleCodes.rx3
  | .three, .tx => P.roleCodes.tx3

/-- The six role codes, in the order of R121. -/
def Profile.roleCodeList (P : Profile) : List Role :=
  [P.roleCode .one .rx, P.roleCode .one .tx, P.roleCode .two .rx, P.roleCode .two .tx,
    P.roleCode .three .rx, P.roleCode .three .tx]

/-- The tokens of one parity. -/
def TokenTable.ofParity (T : TokenTable) : Parity → StopTokens
  | .noParity => T.noParity
  | .even => T.even
  | .odd => T.odd
  | .mark => T.mark
  | .space => T.space

/-- The tokens of one stop code. -/
def StopTokens.ofStop (T : StopTokens) : StopBits → DataTokens
  | .one => T.one
  | .two => T.two

/-- The token of one data width. -/
def DataTokens.ofData (T : DataTokens) : DataBits → Option Cfg
  | .five => T.five
  | .six => T.six
  | .seven => T.seven
  | .eight => T.eight

/-- `P.token(par, stop, data)` (R28). -/
def Profile.token (P : Profile) (par : Parity) (stop : StopBits) (data : DataBits) : Option Cfg :=
  ((P.tokens.ofParity par).ofStop stop).ofData data

/-- `T_8N1`, the value of `P.token(0, 0, 8)`, which exists by `WF_DEFAULT` (R28, R140). The 0 for a profile without
it is never seen: every operation refuses such a profile (log entry 13). -/
def Profile.defaultToken (P : Profile) : Cfg := (P.token .noParity .one .eight).getD 0

/-- The parities an ENCODE row's condition admits: mark and space need `P.ext_parity` (R143). -/
def Profile.recognises (P : Profile) : Parity → Bool
  | .mark => P.extParity
  | .space => P.extParity
  | _ => true

/-- The pin is a number of `PIN_W` bits (R8, R24, R78). -/
def Profile.fitsPin (P : Profile) (pin : Pin) : Bool := decide (pin < 2 ^ P.pinW)

/-- The token is a number of `CFG_W` bits (R8, R24, R80). -/
def Profile.fitsCfg (P : Profile) (token : Cfg) : Bool := decide (token < 2 ^ P.cfgW)

/-- The parities of the token table. -/
def Parity.all : List Parity := [.noParity, .even, .odd, .mark, .space]

/-- The keys `P.token` is read at: "Entries at other keys are never read" (R28, D9). -/
def Profile.readableTokens (P : Profile) : List (Option Cfg) :=
  (Parity.all.filter P.recognises).flatMap fun p =>
    [P.token p .one .five, P.token p .one .six, P.token p .one .seven, P.token p .one .eight,
      P.token p .two .five, P.token p .two .six, P.token p .two .seven, P.token p .two .eight]

/-- The named checks of R30, and the two widths. Only a present port's pins are hardware (R26), and only the readable
tokens, so only they must fit; a width that is too narrow for them is refused (D3, D10). DEDUCED (log entry 1).
`WF_ROLE` says the six codes and 0 are pairwise distinct. -/
def Profile.passes (P : Profile) : WfCheck → Bool
  | .port0 => P.present 0 == false
  | .high => decide (∀ p : PortIdx, 4 ≤ p → P.present p = false)
  | .pair => decide (∀ p : PortIdx, P.present p = true → P.pins p ≠ PinPair.sentinel)
  | .defaultToken => (P.token .noParity .one .eight).isSome
  | .role => decide ((0 :: P.roleCodeList).Nodup)
  | .pinWidth =>
    decide (∀ p : PortIdx, P.present p = true → P.fitsPin (P.rx p) = true ∧ P.fitsPin (P.tx p) = true)
  | .cfgWidth => P.readableTokens.all fun token => token.all P.fitsCfg

/-- The first check that the profile fails, in R30's order and then the widths; `none` says `WF(P)` and that the profile
fits its widths. DESIGN CHOICE: which name is reported when several fail (log entry 12). -/
def Profile.failedCheck (P : Profile) : Option WfCheck :=
  [WfCheck.port0, .high, .pair, .defaultToken, .role, .pinWidth, .cfgWidth].find? fun c => !P.passes c

/-- `NO_ALIAS(P)`: the pins of all present ports are pairwise distinct (41_pin_role.md R126). -/
abbrev Profile.NoAlias (P : Profile) : Prop :=
  ((SerialPort.all.filter fun p => P.present p.idx).flatMap fun p => [P.rx p.idx, P.tx p.idx]).Nodup

end Sys2Proof
end

