-- ==== Sys2Proof/Machine/Operands.lean ====
section
/-! DEFINITION. The operand forms: LineOptions fields and codes (30_encoding.md R71 to R76), identifier and command
bytes (R77, R81), and the pseudo-operations of R89. -/

namespace Sys2Proof

/-- `options[8:5]`, the raw data-bit count (R72). -/
def dataField (options : LineOptions) : BitVec 4 := options.extractLsb' 5 4

/-- `options[4:2]` (R72). -/
def parityField (options : LineOptions) : BitVec 3 := options.extractLsb' 2 3

/-- `options[1:0]` (R72). -/
def stopField (options : LineOptions) : BitVec 2 := options.extractLsb' 0 2

/-- `options[15:9]`, ignored by the decoder (R71, R86). -/
def ignoredField (options : LineOptions) : BitVec 7 := options.extractLsb' 9 7

/-- The parity code (R74; 90_conflicts.md C4: 3 = mark, 4 = space). DEDUCED (log entry 14). -/
def Parity.code : Parity → BitVec 3
  | .noParity => 0
  | .even => 1
  | .odd => 2
  | .mark => 3
  | .space => 4

/-- The stop-bits code (R75). -/
def StopBits.code : StopBits → BitVec 2
  | .one => 0
  | .two => 2

/-- The data-bits code, the raw bit count (R72, R73). -/
def DataBits.code : DataBits → BitVec 4
  | .five => 5
  | .six => 6
  | .seven => 7
  | .eight => 8

/-- The parity a code means; codes 5 to 7 mean none (R74). -/
def Parity.ofCode (c : BitVec 3) : Option Parity :=
  if c = 0 then some .noParity
  else if c = 1 then some .even
  else if c = 2 then some .odd
  else if c = 3 then some .mark
  else if c = 4 then some .space
  else none

/-- The stop bits a code means; codes 1 and 3 are not recognised (R75). -/
def StopBits.ofCode (c : BitVec 2) : Option StopBits :=
  if c = 0 then some .one else if c = 2 then some .two else none

/-- The data bits a code means; codes 0 to 4 and 9 to 15 are not recognised (R73). -/
def DataBits.ofCode (c : BitVec 4) : Option DataBits :=
  if c = 5 then some .five
  else if c = 6 then some .six
  else if c = 7 then some .seven
  else if c = 8 then some .eight
  else none

/-- The triple row of the opcode table a word falls under, by its fields alone (R88: mask 0x01FF). -/
def tripleOf (options : LineOptions) : Option (Parity × StopBits × DataBits) :=
  match Parity.ofCode (parityField options), StopBits.ofCode (stopField options),
      DataBits.ofCode (dataField options) with
  | some p, some s, some d => some (p, s, d)
  | _, _, _ => none

/-- The word of a triple with given ignored bits: pattern `XXXXXXXDDDDPPPSS` (R71). -/
def optionsWord (x : BitVec 7) (p : Parity) (s : StopBits) (d : DataBits) : LineOptions :=
  x ++ d.code ++ p.code ++ s.code

/-- The identifier of a hardware port (R54, R77). -/
def SerialPort.id : SerialPort → PortId
  | .one => 0x01
  | .two => 0x02
  | .three => 0x03

/-- `port_id[2:0]`, the port number within the band (R54). -/
def portIndex (id : PortId) : PortIdx := (id.extractLsb' 0 3).toFin

/-- `cmd[7:4]` (R81). -/
def opcodeNibble (c : CommandByte) : BitVec 4 := c.extractLsb' 4 4

/-- `cmd[3:0]`, the port identifier of a port-addressed command (R81). -/
def portNibble (c : CommandByte) : BitVec 4 := c.extractLsb' 0 4

/-- The caller's mask: the PTAB input for a command or identifier byte (R84, R195 item 1). -/
def maskIdentifier (c : BitVec 8) : PortId := c &&& 0x0F

/-- `(d << 5) | (p << 2) | s`, the word a caller assembles (R76). -/
def assembleOptions (d : BitVec 4) (p : BitVec 3) (s : BitVec 2) : LineOptions :=
  (d.setWidth 16 <<< 5) ||| (p.setWidth 16 <<< 2) ||| s.setWidth 16

/-- The pseudo-operation `ENCODE.<d><p><s>` (R89). -/
def asmEncode (d : DataBits) (p : Parity) (s : StopBits) : InputWord :=
  .lineOpt (assembleOptions d.code p.code s.code)

/-- The pseudo-operation `LOOKUP_PINS.CMD <byte>` (R89). -/
def asmLookupPinsCmd (c : CommandByte) : InputWord := .portId (maskIdentifier c)

/-- The pseudo-operation `LOOKUP_PINS.HW <n>` (R89). -/
def asmLookupPinsHw (n : BitVec 3) : InputWord := .portId (n.setWidth 8)

/-- The pseudo-operation `LOOKUP_PINS.SW <n>` (R89). -/
def asmLookupPinsSw (n : BitVec 3) : InputWord := .portId (0x08 ||| n.setWidth 8)

end Sys2Proof
end

