-- ==== Sys2Proof/Machine/Units.lean ====
section
/-! DEFINITION. The three units as the spec's pseudocode gives them, each a function of the profile and its own input
(00_scope.md R3, 10_state.md R23): LOOKUP_PINS (40_port_table.md R100), ROLE_OF (41_pin_role.md R120) and ENCODE
(42_line_config.md R140); and the priority selector that matches a pin to a ROLE_OF row (R121). -/

namespace Sys2Proof

/-- LOOKUP_PINS (R100). The whole byte is compared, nothing is masked (90_conflicts.md C1). -/
def Profile.lookupPins (P : Profile) (id : PortId) : PinPair :=
  if id ≤ 0x07 ∧ P.present (portIndex id) = true then P.pins (portIndex id) else PinPair.sentinel

/-- One turn of ROLE_OF's loop: port `p`'s comparators, receive before transmit, then the rest (R120, R121). -/
def Profile.roleAtPort (P : Profile) (p : SerialPort) (pin : Pin) (rest : Role) : Role :=
  if P.present p.idx = true then
    if pin = P.rx p.idx then P.roleCode p .rx
    else if pin = P.tx p.idx then P.roleCode p .tx
    else rest
  else rest

/-- ROLE_OF (R120): port 1, then 2, then 3; no match gives 0. -/
def Profile.roleOf (P : Profile) (pin : Pin) : Role :=
  P.roleAtPort .one pin (P.roleAtPort .two pin (P.roleAtPort .three pin 0))

/-- The parity codes LCE recognises (R74, R140). -/
def Profile.parityOk (P : Profile) (c : BitVec 3) : Bool :=
  (c == 0 || c == 1 || c == 2) || (P.extParity && (c == 3 || c == 4))

/-- The stop-bits codes LCE recognises (R75, R140). -/
def stopOk (c : BitVec 2) : Bool := c == 0 || c == 2

/-- The data-bits codes LCE recognises (R73, R140). -/
def dataOk (c : BitVec 4) : Bool := c == 5 || c == 6 || c == 7 || c == 8

/-- `P.token` at raw codes; a key outside the table holds none (R28, D9). -/
def Profile.tokenAt (P : Profile) (par : BitVec 3) (stop : BitVec 2) (data : BitVec 4) : Option Cfg :=
  match Parity.ofCode par, StopBits.ofCode stop, DataBits.ofCode data with
  | some p, some s, some d => P.token p s d
  | _, _, _ => none

/-- ENCODE (R140). `options[15:9]` is not read. -/
def Profile.encode (P : Profile) (options : LineOptions) : Cfg :=
  if P.parityOk (parityField options) && stopOk (stopField options) && dataOk (dataField options) then
    match P.tokenAt (parityField options) (stopField options) (dataField options) with
    | some t => t
    | none => P.defaultToken
  else P.defaultToken

/-- The candidates of ROLE_OF in the normative order of R121. -/
def rolePriority : List (SerialPort × Dir) :=
  [(.one, .rx), (.one, .tx), (.two, .rx), (.two, .tx), (.three, .rx), (.three, .tx)]

/-- A ROLE_OF row matches a pin: its port is present and the pin is the row's pin (R120, R123). -/
def Profile.roleMatches (P : Profile) (pin : Pin) (row : SerialPort × Dir) : Bool :=
  P.present row.1.idx && pin == P.pinOf row.1 row.2

/-- The ROLE_OF row a pin selects, the first that matches in the order of R121; `none` is ROLE_OF.NONE. -/
def Profile.selectedRole (P : Profile) (pin : Pin) : Option (SerialPort × Dir) :=
  rolePriority.find? (P.roleMatches pin)

/-- The result of an ENCODE triple row: its token when the row's condition holds, otherwise ENCODE.DEFAULT's
(R140, R142, R149). -/
def Profile.rowToken (P : Profile) (p : Parity) (s : StopBits) (d : DataBits) : Cfg :=
  if P.recognises p then (P.token p s d).getD P.defaultToken else P.defaultToken

end Sys2Proof
end

