-- ==== Sys2Proof/Syntax.lean ====
section
/-! DEFINITION. One constructor per row of spec/opcode_table.json (30_encoding.md R88). A row's operands are the bits
of its word that its pattern leaves open, so that no bit of a word is dropped. -/

namespace Sys2Proof

/-- The decode cases of the block's operations (R14, R88) and the command byte vocabulary (R82, R83). An ENCODE
triple row carries the ignored bits `options[15:9]`; a default or sentinel row carries its whole word; a ROLE_OF
row carries the pin; a command carries the port identifier of its low nibble (R81). -/
inductive Instr where
  | encode5N1 (x : BitVec 7)
  | encode6N1 (x : BitVec 7)
  | encode7N1 (x : BitVec 7)
  | encode8N1 (x : BitVec 7)
  | encode5N2 (x : BitVec 7)
  | encode6N2 (x : BitVec 7)
  | encode7N2 (x : BitVec 7)
  | encode8N2 (x : BitVec 7)
  | encode5E1 (x : BitVec 7)
  | encode6E1 (x : BitVec 7)
  | encode7E1 (x : BitVec 7)
  | encode8E1 (x : BitVec 7)
  | encode5E2 (x : BitVec 7)
  | encode6E2 (x : BitVec 7)
  | encode7E2 (x : BitVec 7)
  | encode8E2 (x : BitVec 7)
  | encode5O1 (x : BitVec 7)
  | encode6O1 (x : BitVec 7)
  | encode7O1 (x : BitVec 7)
  | encode8O1 (x : BitVec 7)
  | encode5O2 (x : BitVec 7)
  | encode6O2 (x : BitVec 7)
  | encode7O2 (x : BitVec 7)
  | encode8O2 (x : BitVec 7)
  | encode5M1 (x : BitVec 7)
  | encode6M1 (x : BitVec 7)
  | encode7M1 (x : BitVec 7)
  | encode8M1 (x : BitVec 7)
  | encode5M2 (x : BitVec 7)
  | encode6M2 (x : BitVec 7)
  | encode7M2 (x : BitVec 7)
  | encode8M2 (x : BitVec 7)
  | encode5S1 (x : BitVec 7)
  | encode6S1 (x : BitVec 7)
  | encode7S1 (x : BitVec 7)
  | encode8S1 (x : BitVec 7)
  | encode5S2 (x : BitVec 7)
  | encode6S2 (x : BitVec 7)
  | encode7S2 (x : BitVec 7)
  | encode8S2 (x : BitVec 7)
  | encodeDefault (options : LineOptions)
  | lookupPinsHw1
  | lookupPinsHw2
  | lookupPinsHw3
  | lookupPinsSentinel (id : PortId)
  | roleOfRx1 (pin : Pin)
  | roleOfTx1 (pin : Pin)
  | roleOfRx2 (pin : Pin)
  | roleOfTx2 (pin : Pin)
  | roleOfRx3 (pin : Pin)
  | roleOfTx3 (pin : Pin)
  | roleOfNone (pin : Pin)
  | cmdConfigure (port : BitVec 4)
  | cmdWrite (port : BitVec 4)
  | cmdReadRequest (port : BitVec 4)
  | cmdReply (port : BitVec 4)
  | cmdClose (port : BitVec 4)
  | cmdFlush (port : BitVec 4)
  | cmdListenSubscribe (port : BitVec 4)
  | cmdReadRequestModeContinuous
  | cmdReadRequestModeStop
  deriving DecidableEq, Repr

end Sys2Proof
end

