-- ==== Sys2Proof/WellFormed.lean ====
section
/-! DEFINITION. Which instructions the table's rows admit: a default or sentinel row takes only words that no other
row of its format matches (30_encoding.md R88), and a ROLE_OF row is selected by a profile (41_pin_role.md R121). -/

namespace Sys2Proof

/-- The operand is one the row's own pattern leaves to it. ENCODE.DEFAULT and LOOKUP_PINS.SENTINEL have mask 0 and the
lowest priority, so a word that another row matches is none of theirs. -/
def Instr.wf : Instr → Bool
  | .encodeDefault options => (tripleOf options).isNone
  | .lookupPinsSentinel id => id != 0x01 && id != 0x02 && id != 0x03
  | .encode5N1 _ | .encode6N1 _ | .encode7N1 _ | .encode8N1 _ | .encode5N2 _ | .encode6N2 _ | .encode7N2 _
    | .encode8N2 _ | .encode5E1 _ | .encode6E1 _ | .encode7E1 _ | .encode8E1 _ | .encode5E2 _ | .encode6E2 _
    | .encode7E2 _ | .encode8E2 _ | .encode5O1 _ | .encode6O1 _ | .encode7O1 _ | .encode8O1 _ | .encode5O2 _
    | .encode6O2 _ | .encode7O2 _ | .encode8O2 _ | .encode5M1 _ | .encode6M1 _ | .encode7M1 _ | .encode8M1 _
    | .encode5M2 _ | .encode6M2 _ | .encode7M2 _ | .encode8M2 _ | .encode5S1 _ | .encode6S1 _ | .encode7S1 _
    | .encode8S1 _ | .encode5S2 _ | .encode6S2 _ | .encode7S2 _ | .encode8S2 _ | .lookupPinsHw1
    | .lookupPinsHw2 | .lookupPinsHw3 | .roleOfRx1 _ | .roleOfTx1 _ | .roleOfRx2 _ | .roleOfTx2 _
    | .roleOfRx3 _ | .roleOfTx3 _ | .roleOfNone _ | .cmdConfigure _ | .cmdWrite _ | .cmdReadRequest _
    | .cmdReply _ | .cmdClose _ | .cmdFlush _ | .cmdListenSubscribe _ | .cmdReadRequestModeContinuous
    | .cmdReadRequestModeStop => true

/-- The pin is a value of PROLE's input (R33), and the ROLE_OF row is the one this profile selects for it (R121, R122);
rows of the other formats do not depend on the profile. -/
def Instr.selectedBy (P : Profile) : Instr → Bool
  | .roleOfRx1 pin => P.fitsPin pin && P.selectedRole pin == some (.one, .rx)
  | .roleOfTx1 pin => P.fitsPin pin && P.selectedRole pin == some (.one, .tx)
  | .roleOfRx2 pin => P.fitsPin pin && P.selectedRole pin == some (.two, .rx)
  | .roleOfTx2 pin => P.fitsPin pin && P.selectedRole pin == some (.two, .tx)
  | .roleOfRx3 pin => P.fitsPin pin && P.selectedRole pin == some (.three, .rx)
  | .roleOfTx3 pin => P.fitsPin pin && P.selectedRole pin == some (.three, .tx)
  | .roleOfNone pin => P.fitsPin pin && P.selectedRole pin == none
  | .encode5N1 _ | .encode6N1 _ | .encode7N1 _ | .encode8N1 _ | .encode5N2 _ | .encode6N2 _ | .encode7N2 _
    | .encode8N2 _ | .encode5E1 _ | .encode6E1 _ | .encode7E1 _ | .encode8E1 _ | .encode5E2 _ | .encode6E2 _
    | .encode7E2 _ | .encode8E2 _ | .encode5O1 _ | .encode6O1 _ | .encode7O1 _ | .encode8O1 _ | .encode5O2 _
    | .encode6O2 _ | .encode7O2 _ | .encode8O2 _ | .encode5M1 _ | .encode6M1 _ | .encode7M1 _ | .encode8M1 _
    | .encode5M2 _ | .encode6M2 _ | .encode7M2 _ | .encode8M2 _ | .encode5S1 _ | .encode6S1 _ | .encode7S1 _
    | .encode8S1 _ | .encode5S2 _ | .encode6S2 _ | .encode7S2 _ | .encode8S2 _ | .encodeDefault _
    | .lookupPinsHw1 | .lookupPinsHw2 | .lookupPinsHw3 | .lookupPinsSentinel _ | .cmdConfigure _ | .cmdWrite _
    | .cmdReadRequest _ | .cmdReply _ | .cmdClose _ | .cmdFlush _ | .cmdListenSubscribe _
    | .cmdReadRequestModeContinuous | .cmdReadRequestModeStop => true

end Sys2Proof
end

