-- ==== Sys2Proof/Decode.lean ====
section
/-! DEFINITION. The decoder, total on every input word, and the encoder beside it (30_encoding.md R70 to R88). A word
is decoded together with the input it is carried on (`InputWord`), since no operation-select field exists (R70).
LINEOPT and PORTID rows are told apart by mask and match alone; a PIN word is matched against the profile's pins
(R88). The conditions on `P` that the table gives the former rows are tested by their meanings (log entry 9). -/

namespace Sys2Proof

/-- Words no row of the table covers: they are on no input of the block. The spec says to assume nothing about the
command words among them (R87; 93 section 1: a command-layer model refuses them). Log entries 1 and 8. -/
inductive DecodeError where
  /-- A command byte whose opcode nibble is 0x0 or 0x8 to 0xF. -/
  | unlistedOpcode (byte : CommandByte)
  /-- A read-request sub-mode other than 0x00 and 0x01. -/
  | unlistedSubMode (mode : BitVec 8)
  /-- A number of more than `PIN_W` bits, which PROLE's `pin[PIN_W-1:0]` cannot carry (R33). -/
  | pinBeyondWidth (pin : Pin)
  deriving DecidableEq, Repr

/-- The ENCODE row of a triple, with the ignored bits `x` (R88, R149). -/
def Instr.ofTriple : Parity → StopBits → DataBits → BitVec 7 → Instr
  | .noParity, .one, .five, x => .encode5N1 x
  | .noParity, .one, .six, x => .encode6N1 x
  | .noParity, .one, .seven, x => .encode7N1 x
  | .noParity, .one, .eight, x => .encode8N1 x
  | .noParity, .two, .five, x => .encode5N2 x
  | .noParity, .two, .six, x => .encode6N2 x
  | .noParity, .two, .seven, x => .encode7N2 x
  | .noParity, .two, .eight, x => .encode8N2 x
  | .even, .one, .five, x => .encode5E1 x
  | .even, .one, .six, x => .encode6E1 x
  | .even, .one, .seven, x => .encode7E1 x
  | .even, .one, .eight, x => .encode8E1 x
  | .even, .two, .five, x => .encode5E2 x
  | .even, .two, .six, x => .encode6E2 x
  | .even, .two, .seven, x => .encode7E2 x
  | .even, .two, .eight, x => .encode8E2 x
  | .odd, .one, .five, x => .encode5O1 x
  | .odd, .one, .six, x => .encode6O1 x
  | .odd, .one, .seven, x => .encode7O1 x
  | .odd, .one, .eight, x => .encode8O1 x
  | .odd, .two, .five, x => .encode5O2 x
  | .odd, .two, .six, x => .encode6O2 x
  | .odd, .two, .seven, x => .encode7O2 x
  | .odd, .two, .eight, x => .encode8O2 x
  | .mark, .one, .five, x => .encode5M1 x
  | .mark, .one, .six, x => .encode6M1 x
  | .mark, .one, .seven, x => .encode7M1 x
  | .mark, .one, .eight, x => .encode8M1 x
  | .mark, .two, .five, x => .encode5M2 x
  | .mark, .two, .six, x => .encode6M2 x
  | .mark, .two, .seven, x => .encode7M2 x
  | .mark, .two, .eight, x => .encode8M2 x
  | .space, .one, .five, x => .encode5S1 x
  | .space, .one, .six, x => .encode6S1 x
  | .space, .one, .seven, x => .encode7S1 x
  | .space, .one, .eight, x => .encode8S1 x
  | .space, .two, .five, x => .encode5S2 x
  | .space, .two, .six, x => .encode6S2 x
  | .space, .two, .seven, x => .encode7S2 x
  | .space, .two, .eight, x => .encode8S2 x

/-- A LineOptions word (R71 to R75): the triple row of its fields, or ENCODE.DEFAULT. -/
def decodeLineOpt (options : LineOptions) : Instr :=
  match tripleOf options with
  | some (p, s, d) => Instr.ofTriple p s d (ignoredField options)
  | none => .encodeDefault options

/-- A PTAB input byte (R77): the whole byte is compared (90_conflicts.md C1). -/
def decodePortId (id : PortId) : Instr :=
  if id = 0x01 then .lookupPinsHw1
  else if id = 0x02 then .lookupPinsHw2
  else if id = 0x03 then .lookupPinsHw3
  else .lookupPinsSentinel id

/-- The row of a ROLE_OF candidate. -/
def Instr.ofRole : SerialPort → Dir → Pin → Instr
  | .one, .rx, pin => .roleOfRx1 pin
  | .one, .tx, pin => .roleOfTx1 pin
  | .two, .rx, pin => .roleOfRx2 pin
  | .two, .tx, pin => .roleOfTx2 pin
  | .three, .rx, pin => .roleOfRx3 pin
  | .three, .tx, pin => .roleOfTx3 pin

/-- A PROLE input (R120, R121): the first matching row in priority order, or ROLE_OF.NONE. -/
def decodePin (P : Profile) (pin : Pin) : Instr :=
  match P.selectedRole pin with
  | some (p, d) => Instr.ofRole p d pin
  | none => .roleOfNone pin

/-- A command byte (R81, R82): opcode in the high nibble, port identifier in the low one. -/
def decodeCmd (c : CommandByte) : Except DecodeError Instr :=
  if opcodeNibble c = 0x1 then .ok (.cmdConfigure (portNibble c))
  else if opcodeNibble c = 0x2 then .ok (.cmdWrite (portNibble c))
  else if opcodeNibble c = 0x3 then .ok (.cmdReadRequest (portNibble c))
  else if opcodeNibble c = 0x4 then .ok (.cmdReply (portNibble c))
  else if opcodeNibble c = 0x5 then .ok (.cmdClose (portNibble c))
  else if opcodeNibble c = 0x6 then .ok (.cmdFlush (portNibble c))
  else if opcodeNibble c = 0x7 then .ok (.cmdListenSubscribe (portNibble c))
  else .error (.unlistedOpcode c)

/-- A read-request sub-mode (R83). -/
def decodeCmdSubMode (m : BitVec 8) : Except DecodeError Instr :=
  if m = 0x00 then .ok .cmdReadRequestModeContinuous
  else if m = 0x01 then .ok .cmdReadRequestModeStop
  else .error (.unlistedSubMode m)

/-- The decoder. Every word on an input of the block decodes (R85). -/
def decode (P : Profile) : InputWord → Except DecodeError Instr
  | .lineOpt options => .ok (decodeLineOpt options)
  | .portId id => .ok (decodePortId id)
  | .pin pin => if P.fitsPin pin then .ok (decodePin P pin) else .error (.pinBeyondWidth pin)
  | .cmd c => decodeCmd c
  | .cmdSubMode m => decodeCmdSubMode m

/-- The encoder, from the words of R76, R77, R82 and R83. -/
def encode : Instr → InputWord
  | .encode5N1 x => .lineOpt (x ++ 0x0A0#9)
  | .encode6N1 x => .lineOpt (x ++ 0x0C0#9)
  | .encode7N1 x => .lineOpt (x ++ 0x0E0#9)
  | .encode8N1 x => .lineOpt (x ++ 0x100#9)
  | .encode5N2 x => .lineOpt (x ++ 0x0A2#9)
  | .encode6N2 x => .lineOpt (x ++ 0x0C2#9)
  | .encode7N2 x => .lineOpt (x ++ 0x0E2#9)
  | .encode8N2 x => .lineOpt (x ++ 0x102#9)
  | .encode5E1 x => .lineOpt (x ++ 0x0A4#9)
  | .encode6E1 x => .lineOpt (x ++ 0x0C4#9)
  | .encode7E1 x => .lineOpt (x ++ 0x0E4#9)
  | .encode8E1 x => .lineOpt (x ++ 0x104#9)
  | .encode5E2 x => .lineOpt (x ++ 0x0A6#9)
  | .encode6E2 x => .lineOpt (x ++ 0x0C6#9)
  | .encode7E2 x => .lineOpt (x ++ 0x0E6#9)
  | .encode8E2 x => .lineOpt (x ++ 0x106#9)
  | .encode5O1 x => .lineOpt (x ++ 0x0A8#9)
  | .encode6O1 x => .lineOpt (x ++ 0x0C8#9)
  | .encode7O1 x => .lineOpt (x ++ 0x0E8#9)
  | .encode8O1 x => .lineOpt (x ++ 0x108#9)
  | .encode5O2 x => .lineOpt (x ++ 0x0AA#9)
  | .encode6O2 x => .lineOpt (x ++ 0x0CA#9)
  | .encode7O2 x => .lineOpt (x ++ 0x0EA#9)
  | .encode8O2 x => .lineOpt (x ++ 0x10A#9)
  | .encode5M1 x => .lineOpt (x ++ 0x0AC#9)
  | .encode6M1 x => .lineOpt (x ++ 0x0CC#9)
  | .encode7M1 x => .lineOpt (x ++ 0x0EC#9)
  | .encode8M1 x => .lineOpt (x ++ 0x10C#9)
  | .encode5M2 x => .lineOpt (x ++ 0x0AE#9)
  | .encode6M2 x => .lineOpt (x ++ 0x0CE#9)
  | .encode7M2 x => .lineOpt (x ++ 0x0EE#9)
  | .encode8M2 x => .lineOpt (x ++ 0x10E#9)
  | .encode5S1 x => .lineOpt (x ++ 0x0B0#9)
  | .encode6S1 x => .lineOpt (x ++ 0x0D0#9)
  | .encode7S1 x => .lineOpt (x ++ 0x0F0#9)
  | .encode8S1 x => .lineOpt (x ++ 0x110#9)
  | .encode5S2 x => .lineOpt (x ++ 0x0B2#9)
  | .encode6S2 x => .lineOpt (x ++ 0x0D2#9)
  | .encode7S2 x => .lineOpt (x ++ 0x0F2#9)
  | .encode8S2 x => .lineOpt (x ++ 0x112#9)
  | .encodeDefault options => .lineOpt options
  | .lookupPinsHw1 => .portId 0x01
  | .lookupPinsHw2 => .portId 0x02
  | .lookupPinsHw3 => .portId 0x03
  | .lookupPinsSentinel id => .portId id
  | .roleOfRx1 pin => .pin pin
  | .roleOfTx1 pin => .pin pin
  | .roleOfRx2 pin => .pin pin
  | .roleOfTx2 pin => .pin pin
  | .roleOfRx3 pin => .pin pin
  | .roleOfTx3 pin => .pin pin
  | .roleOfNone pin => .pin pin
  | .cmdConfigure port => .cmd (0x1#4 ++ port)
  | .cmdWrite port => .cmd (0x2#4 ++ port)
  | .cmdReadRequest port => .cmd (0x3#4 ++ port)
  | .cmdReply port => .cmd (0x4#4 ++ port)
  | .cmdClose port => .cmd (0x5#4 ++ port)
  | .cmdFlush port => .cmd (0x6#4 ++ port)
  | .cmdListenSubscribe port => .cmd (0x7#4 ++ port)
  | .cmdReadRequestModeContinuous => .cmdSubMode 0x00
  | .cmdReadRequestModeStop => .cmdSubMode 0x01

/-- The input word of a table word given only by its bits. A 16-bit word is a LINEOPT. A byte does not say which
input carries it (R70), so it is read as the table's first row, among those of most mask bits, that its bits match:
identifiers 0x01 to 0x03, then sub-mode 0x00, then the seven opcodes, then LOOKUP_PINS.SENTINEL. DESIGN CHOICE
(log entry 11); only the host's reading of the table goes through it, no step of the machine does. -/
def InputWord.ofTableBits (nbits w : Nat) : Option InputWord :=
  if nbits = 0 ∨ 16 < nbits ∨ 2 ^ nbits ≤ w then none
  else if 8 < nbits then some (.lineOpt (BitVec.ofNat 16 w))
  else if 1 ≤ w ∧ w ≤ 3 then some (.portId (BitVec.ofNat 8 w))
  else if w = 0 then some (.cmdSubMode 0)
  else if 0x10 ≤ w ∧ w ≤ 0x7F then some (.cmd (BitVec.ofNat 8 w))
  else some (.portId (BitVec.ofNat 8 w))

/-- What the decoder reads from a table word. No such word is a pin, so the profile does not matter here. -/
def decodeTableWord (nbits w : Nat) : Option Instr :=
  match InputWord.ofTableBits nbits w with
  | some word => (decode Config.resetProfile word).toOption
  | none => none

end Sys2Proof
end

