-- ==== Sys2Proof/Machine/State.lean ====
section
/-! DEFINITION. The machine's state, as plain data. The block itself has no register, program counter, flag or memory
(10_state.md R20 to R23, 20_memory.md R50): what the spec gives it is the profile (R24) and the values on its ports
(R32 to R34). `requests` and `samples` are the requester's side of the interface, the model's own fields (log
entries 5 and 6). -/

namespace Sys2Proof.Machine

/-- The machine's state. -/
structure State where
  /-- The board profile `P` (R24) and the widths (R8). No operation changes them (R31). -/
  profile : Profile
  /-- The value applied at PTAB's input `port_id` (R32). -/
  portId : PortId
  /-- The value applied at PROLE's input `pin`, `PIN_W` bits (R33). -/
  pin : Pin
  /-- The value applied at LCE's input `options` (R34). -/
  options : LineOptions
  /-- PTAB's output `rx_pin`, `PIN_W` bits (R32). -/
  rxPin : Pin
  /-- PTAB's output `tx_pin`, `PIN_W` bits (R32). -/
  txPin : Pin
  /-- PROLE's output `role` (R33). -/
  role : Role
  /-- LCE's output `cfg`, `CFG_W` bits (R34). -/
  cfg : Cfg
  /-- The requester's program: the operations still to be presented, oldest first (R89, 95_test_vectors.md section 3).
  DESIGN CHOICE (log entry 5). -/
  requests : List InputWord
  /-- The outputs the requester has sampled, oldest first (R194, 95_test_vectors.md section 3). DESIGN CHOICE
  (log entry 6). -/
  samples : List Output
  deriving DecidableEq, Repr

/-- The block has no fault: "Every input value gives a value" (60_exceptions.md R170, R177). -/
inductive Fault where
  deriving DecidableEq, Repr

/-- Why a step or an operation has no meaning. -/
inductive Refusal where
  /-- Raised by an arm of `exec` for an instruction without a meaning; no arm raises it. Safe. -/
  | notModelled (mnemonic : String)
  /-- Raised by `configure`, by every step and by every operation on a profile that fails `WF` or does not fit its
  widths, under the name of the first check it fails (R30, R177, D3, D10, D16). Safe: the spec gives such a profile no
  behaviour. -/
  | illFormedProfile (check : WfCheck)
  /-- Raised by a step whose request is a command word that no row of the table covers (R87), or a pin of more than
  `PIN_W` bits (R33). Safe: the word is on no input of the block, and the spec says to assume nothing about the former
  (log entries 1 and 8). -/
  | undecodable (error : DecodeError)
  deriving DecidableEq, Repr

/-- The block with profile `P` after power-up: the outputs are those of the inputs applied (R36, R190). The inputs
applied then are the requester's; 0 is a DESIGN CHOICE (log entry 4). -/
def State.powerUp (P : Profile) : State where
  profile := P
  portId := 0
  pin := 0
  options := 0
  rxPin := (P.lookupPins 0).rx
  txPin := (P.lookupPins 0).tx
  role := P.roleOf 0
  cfg := P.encode 0
  requests := []
  samples := []

/-- The machine after reset: power-up of the profile of `Config`. The block has no reset input (R190); its profile is
the one an implementation fixes, which the spec leaves open (log entry 3). -/
def State.reset : State := State.powerUp Config.resetProfile

end Sys2Proof.Machine
end

