-- ==== Sys2Proof/Machine/Ops.lean ====
section
/-! DEFINITION. The shared operations: driving a unit, which applies an input and lets the requester sample the settled
output as one atomic step (70_reset_and_hazards.md R194), the refusal of an ill-formed profile (10_state.md R30), and
fetching the requester's next operation. The block takes no exception and returns from none (60_exceptions.md R170,
R174, R175), so there is no such operation. -/

namespace Sys2Proof.Machine

/-- `port_id` is applied to PTAB, which drives `pair`; the requester samples it (R32, R194). -/
def State.drivePtab (s : State) (id : PortId) (pair : PinPair) : State :=
  { s with portId := id, rxPin := pair.rx, txPin := pair.tx, samples := s.samples ++ [.pins pair] }

/-- `pin` is applied to PROLE, which drives `code`; the requester samples it (R33, R194). -/
def State.driveProle (s : State) (pin : Pin) (code : Role) : State :=
  { s with pin := pin, role := code, samples := s.samples ++ [.role code] }

/-- `options` is applied to LCE, which drives `token`; the requester samples it (R34, R194). -/
def State.driveLce (s : State) (options : LineOptions) (token : Cfg) : State :=
  { s with options := options, cfg := token, samples := s.samples ++ [.cfg token] }

/-- The outcome `next` under `WF(P)`; otherwise the refusal the spec asks for (R30, R177). -/
def State.whenConfigured (s next : State) : Host.Outcome State Fault Refusal :=
  match s.profile.failedCheck with
  | none => .next next
  | some check => .refused (.illFormedProfile check)

/-- A command word: it is on no input of the block, which neither changes nor drives anything (R84, R179). DEDUCED
(log entry 7). -/
def State.notDecodedByBlock (s : State) : Host.Outcome State Fault Refusal := s.whenConfigured s

/-- The requester's next operation and the state that still holds the later ones. -/
def State.fetch (s : State) : Option (InputWord × State) :=
  match s.requests with
  | [] => none
  | word :: rest => some (word, { s with requests := rest })

/-- The operation is presented before those that wait. -/
def State.withRequest (s : State) (word : InputWord) : State := { s with requests := word :: s.requests }

/-- Configuring the block with a profile (R192): a profile that fails `WF` is refused (R30). -/
def configure (P : Profile) : Host.Outcome State Fault Refusal :=
  (State.powerUp P).whenConfigured (State.powerUp P)

end Sys2Proof.Machine
end

