-- ==== Sys2Proof/Machine/Command.lean ====
section
/-! DEFINITION. The command byte vocabulary (30_encoding.md R81 to R84). The commands belong to the external command
layer; the block decodes none of them and none has an effect on it (R84, R87, 60_exceptions.md R179). -/

namespace Sys2Proof.Machine

/-- CMD.CONFIGURE (R82): no effect on the block (R84). -/
def execCmdConfigure (_port : BitVec 4) (s : State) : Host.Outcome State Fault Refusal := s.notDecodedByBlock

/-- CMD.WRITE (R82): no effect on the block (R84). -/
def execCmdWrite (_port : BitVec 4) (s : State) : Host.Outcome State Fault Refusal := s.notDecodedByBlock

/-- CMD.READ_REQUEST (R82): no effect on the block (R84). -/
def execCmdReadRequest (_port : BitVec 4) (s : State) : Host.Outcome State Fault Refusal := s.notDecodedByBlock

/-- CMD.REPLY (R82): no effect on the block (R84). -/
def execCmdReply (_port : BitVec 4) (s : State) : Host.Outcome State Fault Refusal := s.notDecodedByBlock

/-- CMD.CLOSE (R82): no effect on the block (R84). -/
def execCmdClose (_port : BitVec 4) (s : State) : Host.Outcome State Fault Refusal := s.notDecodedByBlock

/-- CMD.FLUSH (R82): no effect on the block (R84). -/
def execCmdFlush (_port : BitVec 4) (s : State) : Host.Outcome State Fault Refusal := s.notDecodedByBlock

/-- CMD.LISTEN_SUBSCRIBE (R82): no effect on the block (R84). -/
def execCmdListenSubscribe (_port : BitVec 4) (s : State) : Host.Outcome State Fault Refusal := s.notDecodedByBlock

/-- CMD.READ_REQUEST.MODE_CONTINUOUS (R83): no effect on the block (R84). -/
def execCmdReadRequestModeContinuous (s : State) : Host.Outcome State Fault Refusal := s.notDecodedByBlock

/-- CMD.READ_REQUEST.MODE_STOP (R83): no effect on the block (R84). -/
def execCmdReadRequestModeStop (s : State) : Host.Outcome State Fault Refusal := s.notDecodedByBlock

end Sys2Proof.Machine
end

