-- ==== Sys2Proof/Machine/LineConfig.lean ====
section
/-! DEFINITION. LCE's rows: ENCODE.<d><p><s> and ENCODE.DEFAULT (42_line_config.md R140 to R149). -/

namespace Sys2Proof.Machine

/-- An ENCODE triple row: LCE receives the row's word and drives the row's token, or `T_8N1` when the row's condition
fails (R140, R142, R143). -/
def encodeRow (p : Parity) (s : StopBits) (d : DataBits) (x : BitVec 7) (st : State) :
    Host.Outcome State Fault Refusal :=
  st.whenConfigured (st.driveLce (optionsWord x p s d) (st.profile.rowToken p s d))

/-- ENCODE.DEFAULT: a word no triple row matches gives `T_8N1` (R142). A word this row is not selected for gets what
LCE gives it (log entry 10). -/
def encodeDefaultRow (options : LineOptions) (st : State) : Host.Outcome State Fault Refusal :=
  st.whenConfigured (st.driveLce options
    (if (tripleOf options).isNone then st.profile.defaultToken else st.profile.encode options))

/-- ENCODE.5N1 (R140, R149). -/
def execEncode5N1 (x : BitVec 7) (s : State) : Host.Outcome State Fault Refusal :=
  encodeRow .noParity .one .five x s

/-- ENCODE.6N1 (R140, R149). -/
def execEncode6N1 (x : BitVec 7) (s : State) : Host.Outcome State Fault Refusal :=
  encodeRow .noParity .one .six x s

/-- ENCODE.7N1 (R140, R149). -/
def execEncode7N1 (x : BitVec 7) (s : State) : Host.Outcome State Fault Refusal :=
  encodeRow .noParity .one .seven x s

/-- ENCODE.8N1 (R140, R149). -/
def execEncode8N1 (x : BitVec 7) (s : State) : Host.Outcome State Fault Refusal :=
  encodeRow .noParity .one .eight x s

/-- ENCODE.5N2 (R140, R149). -/
def execEncode5N2 (x : BitVec 7) (s : State) : Host.Outcome State Fault Refusal :=
  encodeRow .noParity .two .five x s

/-- ENCODE.6N2 (R140, R149). -/
def execEncode6N2 (x : BitVec 7) (s : State) : Host.Outcome State Fault Refusal :=
  encodeRow .noParity .two .six x s

/-- ENCODE.7N2 (R140, R149). -/
def execEncode7N2 (x : BitVec 7) (s : State) : Host.Outcome State Fault Refusal :=
  encodeRow .noParity .two .seven x s

/-- ENCODE.8N2 (R140, R149). -/
def execEncode8N2 (x : BitVec 7) (s : State) : Host.Outcome State Fault Refusal :=
  encodeRow .noParity .two .eight x s

/-- ENCODE.5E1 (R140, R149). -/
def execEncode5E1 (x : BitVec 7) (s : State) : Host.Outcome State Fault Refusal :=
  encodeRow .even .one .five x s

/-- ENCODE.6E1 (R140, R149). -/
def execEncode6E1 (x : BitVec 7) (s : State) : Host.Outcome State Fault Refusal :=
  encodeRow .even .one .six x s

/-- ENCODE.7E1 (R140, R149). -/
def execEncode7E1 (x : BitVec 7) (s : State) : Host.Outcome State Fault Refusal :=
  encodeRow .even .one .seven x s

/-- ENCODE.8E1 (R140, R149). -/
def execEncode8E1 (x : BitVec 7) (s : State) : Host.Outcome State Fault Refusal :=
  encodeRow .even .one .eight x s

/-- ENCODE.5E2 (R140, R149). -/
def execEncode5E2 (x : BitVec 7) (s : State) : Host.Outcome State Fault Refusal :=
  encodeRow .even .two .five x s

/-- ENCODE.6E2 (R140, R149). -/
def execEncode6E2 (x : BitVec 7) (s : State) : Host.Outcome State Fault Refusal :=
  encodeRow .even .two .six x s

/-- ENCODE.7E2 (R140, R149). -/
def execEncode7E2 (x : BitVec 7) (s : State) : Host.Outcome State Fault Refusal :=
  encodeRow .even .two .seven x s

/-- ENCODE.8E2 (R140, R149). -/
def execEncode8E2 (x : BitVec 7) (s : State) : Host.Outcome State Fault Refusal :=
  encodeRow .even .two .eight x s

/-- ENCODE.5O1 (R140, R149). -/
def execEncode5O1 (x : BitVec 7) (s : State) : Host.Outcome State Fault Refusal :=
  encodeRow .odd .one .five x s

/-- ENCODE.6O1 (R140, R149). -/
def execEncode6O1 (x : BitVec 7) (s : State) : Host.Outcome State Fault Refusal :=
  encodeRow .odd .one .six x s

/-- ENCODE.7O1 (R140, R149). -/
def execEncode7O1 (x : BitVec 7) (s : State) : Host.Outcome State Fault Refusal :=
  encodeRow .odd .one .seven x s

/-- ENCODE.8O1 (R140, R149). -/
def execEncode8O1 (x : BitVec 7) (s : State) : Host.Outcome State Fault Refusal :=
  encodeRow .odd .one .eight x s

/-- ENCODE.5O2 (R140, R149). -/
def execEncode5O2 (x : BitVec 7) (s : State) : Host.Outcome State Fault Refusal :=
  encodeRow .odd .two .five x s

/-- ENCODE.6O2 (R140, R149). -/
def execEncode6O2 (x : BitVec 7) (s : State) : Host.Outcome State Fault Refusal :=
  encodeRow .odd .two .six x s

/-- ENCODE.7O2 (R140, R149). -/
def execEncode7O2 (x : BitVec 7) (s : State) : Host.Outcome State Fault Refusal :=
  encodeRow .odd .two .seven x s

/-- ENCODE.8O2 (R140, R149). -/
def execEncode8O2 (x : BitVec 7) (s : State) : Host.Outcome State Fault Refusal :=
  encodeRow .odd .two .eight x s

/-- ENCODE.5M1 (R140, R149). -/
def execEncode5M1 (x : BitVec 7) (s : State) : Host.Outcome State Fault Refusal :=
  encodeRow .mark .one .five x s

/-- ENCODE.6M1 (R140, R149). -/
def execEncode6M1 (x : BitVec 7) (s : State) : Host.Outcome State Fault Refusal :=
  encodeRow .mark .one .six x s

/-- ENCODE.7M1 (R140, R149). -/
def execEncode7M1 (x : BitVec 7) (s : State) : Host.Outcome State Fault Refusal :=
  encodeRow .mark .one .seven x s

/-- ENCODE.8M1 (R140, R149). -/
def execEncode8M1 (x : BitVec 7) (s : State) : Host.Outcome State Fault Refusal :=
  encodeRow .mark .one .eight x s

/-- ENCODE.5M2 (R140, R149). -/
def execEncode5M2 (x : BitVec 7) (s : State) : Host.Outcome State Fault Refusal :=
  encodeRow .mark .two .five x s

/-- ENCODE.6M2 (R140, R149). -/
def execEncode6M2 (x : BitVec 7) (s : State) : Host.Outcome State Fault Refusal :=
  encodeRow .mark .two .six x s

/-- ENCODE.7M2 (R140, R149). -/
def execEncode7M2 (x : BitVec 7) (s : State) : Host.Outcome State Fault Refusal :=
  encodeRow .mark .two .seven x s

/-- ENCODE.8M2 (R140, R149). -/
def execEncode8M2 (x : BitVec 7) (s : State) : Host.Outcome State Fault Refusal :=
  encodeRow .mark .two .eight x s

/-- ENCODE.5S1 (R140, R149). -/
def execEncode5S1 (x : BitVec 7) (s : State) : Host.Outcome State Fault Refusal :=
  encodeRow .space .one .five x s

/-- ENCODE.6S1 (R140, R149). -/
def execEncode6S1 (x : BitVec 7) (s : State) : Host.Outcome State Fault Refusal :=
  encodeRow .space .one .six x s

/-- ENCODE.7S1 (R140, R149). -/
def execEncode7S1 (x : BitVec 7) (s : State) : Host.Outcome State Fault Refusal :=
  encodeRow .space .one .seven x s

/-- ENCODE.8S1 (R140, R149). -/
def execEncode8S1 (x : BitVec 7) (s : State) : Host.Outcome State Fault Refusal :=
  encodeRow .space .one .eight x s

/-- ENCODE.5S2 (R140, R149). -/
def execEncode5S2 (x : BitVec 7) (s : State) : Host.Outcome State Fault Refusal :=
  encodeRow .space .two .five x s

/-- ENCODE.6S2 (R140, R149). -/
def execEncode6S2 (x : BitVec 7) (s : State) : Host.Outcome State Fault Refusal :=
  encodeRow .space .two .six x s

/-- ENCODE.7S2 (R140, R149). -/
def execEncode7S2 (x : BitVec 7) (s : State) : Host.Outcome State Fault Refusal :=
  encodeRow .space .two .seven x s

/-- ENCODE.8S2 (R140, R149). -/
def execEncode8S2 (x : BitVec 7) (s : State) : Host.Outcome State Fault Refusal :=
  encodeRow .space .two .eight x s

/-- ENCODE.DEFAULT (R140, R142). -/
def execEncodeDefault (options : LineOptions) (s : State) : Host.Outcome State Fault Refusal :=
  encodeDefaultRow options s

end Sys2Proof.Machine
end

