-- ==== Sys2Proof/Machine/PinRole.lean ====
section
/-! DEFINITION. PROLE's rows: ROLE_OF.RX1 to TX3 and ROLE_OF.NONE (41_pin_role.md R120 to R127). -/

namespace Sys2Proof.Machine

/-- A ROLE_OF row: the role code of the row that the pin selects (R120, R121). A pin that selects another row gets
what PROLE gives it (log entry 10). -/
def roleRow (p : SerialPort) (d : Dir) (pin : Pin) (s : State) : Host.Outcome State Fault Refusal :=
  s.whenConfigured (s.driveProle pin
    (if s.profile.selectedRole pin = some (p, d) then s.profile.roleCode p d else s.profile.roleOf pin))

/-- ROLE_OF.NONE: a pin that matches no row gives 0 (R120). A pin that selects a row gets what PROLE gives it
(log entry 10). -/
def noRoleRow (pin : Pin) (s : State) : Host.Outcome State Fault Refusal :=
  s.whenConfigured (s.driveProle pin
    (if s.profile.selectedRole pin = none then 0 else s.profile.roleOf pin))

/-- ROLE_OF.RX1 (R120, R121). -/
def execRoleOfRx1 (pin : Pin) (s : State) : Host.Outcome State Fault Refusal := roleRow .one .rx pin s

/-- ROLE_OF.TX1 (R120, R121). -/
def execRoleOfTx1 (pin : Pin) (s : State) : Host.Outcome State Fault Refusal := roleRow .one .tx pin s

/-- ROLE_OF.RX2 (R120, R121). -/
def execRoleOfRx2 (pin : Pin) (s : State) : Host.Outcome State Fault Refusal := roleRow .two .rx pin s

/-- ROLE_OF.TX2 (R120, R121). -/
def execRoleOfTx2 (pin : Pin) (s : State) : Host.Outcome State Fault Refusal := roleRow .two .tx pin s

/-- ROLE_OF.RX3 (R120, R121). -/
def execRoleOfRx3 (pin : Pin) (s : State) : Host.Outcome State Fault Refusal := roleRow .three .rx pin s

/-- ROLE_OF.TX3 (R120, R121). -/
def execRoleOfTx3 (pin : Pin) (s : State) : Host.Outcome State Fault Refusal := roleRow .three .tx pin s

/-- ROLE_OF.NONE (R120). -/
def execRoleOfNone (pin : Pin) (s : State) : Host.Outcome State Fault Refusal := noRoleRow pin s

end Sys2Proof.Machine
end

