-- ==== Sys2Proof/Machine/PortTable.lean ====
section
/-! DEFINITION. PTAB's rows: LOOKUP_PINS.HW1 to HW3 and LOOKUP_PINS.SENTINEL (40_port_table.md R100 to R104). -/

namespace Sys2Proof.Machine

/-- A hardware port's row: its pair when the port is present, otherwise the sentinel (R100, R102). -/
def hardwarePortRow (p : SerialPort) (s : State) : Host.Outcome State Fault Refusal :=
  s.whenConfigured (s.drivePtab p.id
    (if s.profile.present p.idx = true then s.profile.pins p.idx else PinPair.sentinel))

/-- LOOKUP_PINS.SENTINEL: every identifier but 0x01 to 0x03 gives (0, 0) (R100, R103). An identifier this row is not
selected for gets what PTAB gives it (log entry 10). -/
def sentinelRow (id : PortId) (s : State) : Host.Outcome State Fault Refusal :=
  s.whenConfigured (s.drivePtab id
    (if id = 0x01 ∨ id = 0x02 ∨ id = 0x03 then s.profile.lookupPins id else PinPair.sentinel))

/-- LOOKUP_PINS.HW1 (R100). -/
def execLookupPinsHw1 (s : State) : Host.Outcome State Fault Refusal := hardwarePortRow .one s

/-- LOOKUP_PINS.HW2 (R100). -/
def execLookupPinsHw2 (s : State) : Host.Outcome State Fault Refusal := hardwarePortRow .two s

/-- LOOKUP_PINS.HW3 (R100). -/
def execLookupPinsHw3 (s : State) : Host.Outcome State Fault Refusal := hardwarePortRow .three s

/-- LOOKUP_PINS.SENTINEL (R100). -/
def execLookupPinsSentinel (id : PortId) (s : State) : Host.Outcome State Fault Refusal := sentinelRow id s

end Sys2Proof.Machine
end

