-- ==== Sys2Proof/Machine/Dispatch.lean ====
section
/-! DEFINITION. One arm per constructor of Instr. -/

namespace Sys2Proof.Machine

def exec (i : Instr) (s : State) : Host.Outcome State Fault Refusal :=
  match i with
  | .encode5N1 x => Sys2Proof.Machine.execEncode5N1 x s
  | .encode6N1 x => Sys2Proof.Machine.execEncode6N1 x s
  | .encode7N1 x => Sys2Proof.Machine.execEncode7N1 x s
  | .encode8N1 x => Sys2Proof.Machine.execEncode8N1 x s
  | .encode5N2 x => Sys2Proof.Machine.execEncode5N2 x s
  | .encode6N2 x => Sys2Proof.Machine.execEncode6N2 x s
  | .encode7N2 x => Sys2Proof.Machine.execEncode7N2 x s
  | .encode8N2 x => Sys2Proof.Machine.execEncode8N2 x s
  | .encode5E1 x => Sys2Proof.Machine.execEncode5E1 x s
  | .encode6E1 x => Sys2Proof.Machine.execEncode6E1 x s
  | .encode7E1 x => Sys2Proof.Machine.execEncode7E1 x s
  | .encode8E1 x => Sys2Proof.Machine.execEncode8E1 x s
  | .encode5E2 x => Sys2Proof.Machine.execEncode5E2 x s
  | .encode6E2 x => Sys2Proof.Machine.execEncode6E2 x s
  | .encode7E2 x => Sys2Proof.Machine.execEncode7E2 x s
  | .encode8E2 x => Sys2Proof.Machine.execEncode8E2 x s
  | .encode5O1 x => Sys2Proof.Machine.execEncode5O1 x s
  | .encode6O1 x => Sys2Proof.Machine.execEncode6O1 x s
  | .encode7O1 x => Sys2Proof.Machine.execEncode7O1 x s
  | .encode8O1 x => Sys2Proof.Machine.execEncode8O1 x s
  | .encode5O2 x => Sys2Proof.Machine.execEncode5O2 x s
  | .encode6O2 x => Sys2Proof.Machine.execEncode6O2 x s
  | .encode7O2 x => Sys2Proof.Machine.execEncode7O2 x s
  | .encode8O2 x => Sys2Proof.Machine.execEncode8O2 x s
  | .encode5M1 x => Sys2Proof.Machine.execEncode5M1 x s
  | .encode6M1 x => Sys2Proof.Machine.execEncode6M1 x s
  | .encode7M1 x => Sys2Proof.Machine.execEncode7M1 x s
  | .encode8M1 x => Sys2Proof.Machine.execEncode8M1 x s
  | .encode5M2 x => Sys2Proof.Machine.execEncode5M2 x s
  | .encode6M2 x => Sys2Proof.Machine.execEncode6M2 x s
  | .encode7M2 x => Sys2Proof.Machine.execEncode7M2 x s
  | .encode8M2 x => Sys2Proof.Machine.execEncode8M2 x s
  | .encode5S1 x => Sys2Proof.Machine.execEncode5S1 x s
  | .encode6S1 x => Sys2Proof.Machine.execEncode6S1 x s
  | .encode7S1 x => Sys2Proof.Machine.execEncode7S1 x s
  | .encode8S1 x => Sys2Proof.Machine.execEncode8S1 x s
  | .encode5S2 x => Sys2Proof.Machine.execEncode5S2 x s
  | .encode6S2 x => Sys2Proof.Machine.execEncode6S2 x s
  | .encode7S2 x => Sys2Proof.Machine.execEncode7S2 x s
  | .encode8S2 x => Sys2Proof.Machine.execEncode8S2 x s
  | .encodeDefault options => Sys2Proof.Machine.execEncodeDefault options s
  | .lookupPinsHw1 => Sys2Proof.Machine.execLookupPinsHw1 s
  | .lookupPinsHw2 => Sys2Proof.Machine.execLookupPinsHw2 s
  | .lookupPinsHw3 => Sys2Proof.Machine.execLookupPinsHw3 s
  | .lookupPinsSentinel id => Sys2Proof.Machine.execLookupPinsSentinel id s
  | .roleOfRx1 pin => Sys2Proof.Machine.execRoleOfRx1 pin s
  | .roleOfTx1 pin => Sys2Proof.Machine.execRoleOfTx1 pin s
  | .roleOfRx2 pin => Sys2Proof.Machine.execRoleOfRx2 pin s
  | .roleOfTx2 pin => Sys2Proof.Machine.execRoleOfTx2 pin s
  | .roleOfRx3 pin => Sys2Proof.Machine.execRoleOfRx3 pin s
  | .roleOfTx3 pin => Sys2Proof.Machine.execRoleOfTx3 pin s
  | .roleOfNone pin => Sys2Proof.Machine.execRoleOfNone pin s
  | .cmdConfigure port => Sys2Proof.Machine.execCmdConfigure port s
  | .cmdWrite port => Sys2Proof.Machine.execCmdWrite port s
  | .cmdReadRequest port => Sys2Proof.Machine.execCmdReadRequest port s
  | .cmdReply port => Sys2Proof.Machine.execCmdReply port s
  | .cmdClose port => Sys2Proof.Machine.execCmdClose port s
  | .cmdFlush port => Sys2Proof.Machine.execCmdFlush port s
  | .cmdListenSubscribe port => Sys2Proof.Machine.execCmdListenSubscribe port s
  | .cmdReadRequestModeContinuous => Sys2Proof.Machine.execCmdReadRequestModeContinuous s
  | .cmdReadRequestModeStop => Sys2Proof.Machine.execCmdReadRequestModeStop s

end Sys2Proof.Machine
end

