-- ==== Sys2Proof/Machine/Step.lean ====
section
/-! DEFINITION. One step: the requester presents its next operation and samples the result (70_reset_and_hazards.md
R194, 60_exceptions.md R182). With nothing to present, the inputs are held and every output stays (10_state.md R36;
log entry 5). -/

namespace Sys2Proof.Machine

/-- One operation of the requester's program. A profile that fails `WF` is refused before anything else (R30). -/
def step (s : State) : Host.Outcome State Fault Refusal :=
  match s.profile.failedCheck with
  | some check => .refused (.illFormedProfile check)
  | none =>
    match s.fetch with
    | none => .next s
    | some (word, s') =>
      match decode s'.profile word with
      | .ok i => exec i s'
      | .error e => .refused (.undecodable e)

/-- The table word as the next operation the requester presents; `s` itself where the bits are no word of the table
(log entries 5 and 11). -/
def State.withFetchWord (s : State) (nbits w : Nat) : State :=
  match InputWord.ofTableBits nbits w with
  | some word => s.withRequest word
  | none => s

end Sys2Proof.Machine
end

