-- ==== Sys2Proof/Machine/Flags.lean ====
section
/-! DEFINITION. The block has no flag or condition code (10_state.md R22): "using sentinel values (0, or the default
8-N-1 configuration) as the sole failure signal". What a caller reads as that signal, on a sampled output. -/

namespace Sys2Proof.Machine

/-- The output tells the caller that a port is unavailable or a pin is no serial pin (40_port_table.md R101,
41_pin_role.md R127, 70_reset_and_hazards.md R195 items 3 and 4). A token never does (42_line_config.md R147). -/
def signalsUnknown : Output → Bool
  | .pins pair => pair == PinPair.sentinel
  | .role code => code == 0
  | .cfg _ => false

end Sys2Proof.Machine
end

