-- ==== Sys2Proof/Safety.lean ====
section
/-! DEFINITION. What claims about the machine speak of: a configured block (10_state.md R30), settled outputs (R36,
R194), values within the widths (00_scope.md R8), and legal output values (30_encoding.md R79, R80). -/

namespace Sys2Proof.Machine

/-- The profile passes `WF` (R30). -/
abbrev State.Configured (s : State) : Prop := s.profile.failedCheck = none

/-- Every output is its unit's function of the input applied and the profile (R23, R36). -/
abbrev State.Settled (s : State) : Prop :=
  (⟨s.rxPin, s.txPin⟩ : PinPair) = s.profile.lookupPins s.portId ∧
    s.role = s.profile.roleOf s.pin ∧ s.cfg = s.profile.encode s.options

/-- Every port whose width is a parameter holds a value of that width (R8, R32 to R34). -/
abbrev State.WithinWidths (s : State) : Prop :=
  s.pin < 2 ^ s.profile.pinW ∧ s.rxPin < 2 ^ s.profile.pinW ∧ s.txPin < 2 ^ s.profile.pinW ∧
    s.cfg < 2 ^ s.profile.cfgW

/-- A configured block with settled outputs. -/
abbrev State.Inv (s : State) : Prop := s.Configured ∧ s.Settled

/-- The output is one some input of some unit gives under this profile. -/
def outputProduced (P : Profile) : Output → Prop
  | .pins pair => ∃ id, pair = P.lookupPins id
  | .role code => ∃ pin, P.fitsPin pin = true ∧ code = P.roleOf pin
  | .cfg token => ∃ options, token = P.encode options

end Sys2Proof.Machine
end

