-- ==== Sys2Proof/Certificates/Slice0/Obligations.lean ====
section
/-! DEFINITION. The statements for the provers, from the numbered rules of spec/. A statement about a state's profile
is a statement about every profile: nothing here rests on the profile, the inputs or the empty lists that
`State.reset` holds, except where its title says so. -/

open Sys2Proof Sys2Proof.Machine

/-! ### Configuration, reset and the step -/

/-- R30, D3, D10: a profile passes exactly when the five named checks of `WF(P)` hold and its present pins and readable
tokens fit their widths; one that fails has no behaviour: configuring the block, a step and every operation are
refused. That the refusal names the first failed check is the model's choice (log entry 12), and which pins and tokens
must fit is its reading (log entry 1). -/
def Obligations.IllFormedProfileIsRefused : Prop :=
  ∀ P : Profile,
    (P.failedCheck = none ↔
      P.present 0 = false ∧ (∀ p : PortIdx, 4 ≤ p → P.present p = false) ∧
        (∀ p : PortIdx, P.present p = true → (P.rx p, P.tx p) ≠ (0, 0)) ∧
        P.token .noParity .one .eight ≠ none ∧ (∀ c ∈ P.roleCodeList, c ≠ 0) ∧ P.roleCodeList.Nodup ∧
        (∀ p : PortIdx, P.present p = true → P.rx p < 2 ^ P.pinW ∧ P.tx p < 2 ^ P.pinW) ∧
        ∀ p s d token, P.recognises p = true → P.token p s d = some token → token < 2 ^ P.cfgW) ∧
    (∀ c, P.failedCheck = some c →
      configure P = .refused (.illFormedProfile c) ∧
        ∀ s : State, s.profile = P →
          step s = .refused (.illFormedProfile c) ∧ ∀ i, exec i s = .refused (.illFormedProfile c))

/-- The state with other widths (R8). -/
def atWidths (s : State) (pinW cfgW : Nat) : State := { s with profile := { s.profile with pinW, cfgW } }

/-- R8, D3, D10: the widths may be raised. A profile that passes at one width passes at every wider one, and a profile
that fails nothing but the widths passes at some: every board's pins and every platform's tokens have a profile. Which
pins and tokens must fit is the model's reading (log entry 1). -/
def Obligations.WidthsMayBeRaised : Prop :=
  ∀ P : Profile,
    (∀ pinW cfgW, P.failedCheck = none → P.pinW ≤ pinW → P.cfgW ≤ cfgW →
      { P with pinW, cfgW }.failedCheck = none) ∧
    (P.failedCheck = some .pinWidth ∨ P.failedCheck = some .cfgWidth →
      ∃ pinW cfgW, { P with pinW, cfgW }.failedCheck = none)

/-- D3: "Results do not depend on the width otherwise." Two configured blocks that differ in their widths alone go on to
differ in their widths alone, where a pin is presented that both can carry. The requests are the model's choice (log
entry 5). -/
def Obligations.ResultsDoNotDependOnWidths : Prop :=
  ∀ (s : State) (pinW cfgW : Nat) (w : InputWord) (rest : List InputWord),
    s.Configured → (atWidths s pinW cfgW).Configured → s.requests = w :: rest →
    (∀ pin, w = .pin pin → pin < 2 ^ s.profile.pinW ∧ pin < 2 ^ pinW) →
    (∃ t, step s = .next t ∧ step (atWidths s pinW cfgW) = .next (atWidths t pinW cfgW)) ∨
      ∃ e, step s = .refused (.undecodable e) ∧ step (atWidths s pinW cfgW) = .refused (.undecodable e)

/-- R29: the default role codes are 2p and 2p + 1, and `WF(P)` makes the six codes nonzero and distinct. -/
def Obligations.RoleCodesDefaultAndDistinct : Prop :=
  (∀ P : Profile, P.roleCodes = {} → ∀ p : SerialPort,
    (P.roleCode p .rx).toNat = 2 * p.idx.val ∧ (P.roleCode p .tx).toNat = 2 * p.idx.val + 1) ∧
  ∀ P : Profile, P.failedCheck = none → ∀ (p q : SerialPort) (d e : Dir),
    P.roleCode p d ≠ 0 ∧ (P.roleCode p d = P.roleCode q e → p = q ∧ d = e)

/-- R36 and R190: after power-up a well-formed profile is in place, each output is its unit's function of the input
applied, and every port holds a value of its width (R8). Which inputs are applied then is the model's choice (log entry 4) and is not said. -/
def Obligations.PowerUpOutputsAreSettled : Prop :=
  ∀ P : Profile, P.failedCheck = none → ∃ t, configure P = .next t ∧ t.profile = P ∧
    (t.rxPin, t.txPin) = ((P.lookupPins t.portId).rx, (P.lookupPins t.portId).tx) ∧
    t.role = P.roleOf t.pin ∧ t.cfg = P.encode t.options ∧ t.WithinWidths

/-- The state after reset meets the invariant and holds values within the widths. Rests on the profile that log entry 3 puts there. -/
def Obligations.ResetMeetsInvariant : Prop :=
  State.reset.Inv ∧ State.reset.WithinWidths ∧ ∀ o ∈ State.reset.samples, outputProduced State.reset.profile o

/-- R23, R36: from every state with settled outputs, a step leaves a configured block with settled outputs. -/
def Obligations.StepKeepsOutputsSettled : Prop :=
  ∀ s t : State, s.Settled → step s = .next t → t.Inv

/-- R8, R24, R32 to R34: from every state whose ports hold values of their widths, a step leaves such a state. -/
def Obligations.StepKeepsPortsWithinWidths : Prop :=
  ∀ s t : State, s.WithinWidths → step s = .next t → t.WithinWidths

/-- If every output the requester has sampled is one that some input gives, so is every output sampled after a step
(R79, R80, R146). The list of samples is the model's choice (log entry 6). -/
def Obligations.StepSamplesOnlyProducedOutputs : Prop :=
  ∀ s t : State, (∀ o ∈ s.samples, outputProduced s.profile o) → step s = .next t →
    ∀ o ∈ t.samples, outputProduced t.profile o

/-- R31: nothing changes the profile, neither an operation, nor a step, nor a run of any length. -/
def Obligations.ProfileIsImmutable : Prop :=
  (∀ (i : Instr) (s t : State), exec i s = .next t → t.profile = s.profile) ∧
  (∀ s t : State, step s = .next t → t.profile = s.profile) ∧
  ∀ (n : Nat) (s t : State), core.run n s = .next t → t.profile = s.profile

/-- A step of a configured block presents the requester's next operation: it is `exec` of the decoded row on the state
that holds the later operations. That the operations wait in `requests` is the model's choice (log entry 5). -/
def Obligations.StepRunsDecodedInstruction : Prop :=
  ∀ (s : State) (w : InputWord) (rest : List InputWord) (i : Instr), s.Configured → s.requests = w :: rest →
    decode s.profile w = .ok i → step s = exec i { s with requests := rest }

/-- With no operation to present, a step of a configured block changes nothing. The model's choice (log entry 5). -/
def Obligations.StepWithoutRequestHoldsState : Prop :=
  ∀ s : State, s.Configured → s.requests = [] → step s = .next s

/-- What a word makes the block return: the pseudocode of its unit, nothing for a command word or for a number that
PROLE's input cannot carry (R33). -/
def expectedOutput (P : Profile) : InputWord → Option Output
  | .lineOpt o => some (.cfg (P.encode o))
  | .portId id => some (.pins (P.lookupPins id))
  | .pin pin => if pin < 2 ^ P.pinW then some (.role (P.roleOf pin)) else none
  | .cmd _ => none
  | .cmdSubMode _ => none

/-- R89, R23: every list of operations on the block's inputs runs to its end, and the outputs sampled are those of the
units' pseudocode, one for each operation, in order, each independent of the others. The lists of operations and of
samples are the model's choice (log entries 5 and 6). -/
def Obligations.EveryOperationListRunsToItsOutputs : Prop :=
  ∀ (ws : List InputWord) (s : State), s.Configured → s.requests = ws →
    (∀ w ∈ ws, (expectedOutput s.profile w).isSome) →
    ∃ t, core.run ws.length s = .next t ∧ t.requests = [] ∧
      t.samples = s.samples ++ ws.filterMap (expectedOutput s.profile)

/-- R85: no input has an illegal encoding. Every options word decodes to a row that completes with a token of the table;
every identifier with a pair, the sentinel unless it is a present hardware port's; every pin of `PIN_W` bits with a
code, 0 unless it is a present serial pin. -/
def Obligations.EveryInputValueHasAnOutput : Prop :=
  ∀ s : State, s.Configured →
    (∀ o, ∃ i t p st d, decode s.profile (.lineOpt o) = .ok i ∧ exec i s = .next t ∧
      s.profile.token p st d = some t.cfg) ∧
    (∀ id, ∃ i t, decode s.profile (.portId id) = .ok i ∧ exec i s = .next t ∧
      ((∀ p : PortIdx, s.profile.present p = true → id.toNat ≠ p.val) → t.rxPin = 0 ∧ t.txPin = 0)) ∧
    ∀ pin, pin < 2 ^ s.profile.pinW → ∃ i t, decode s.profile (.pin pin) = .ok i ∧ exec i s = .next t ∧
      ((∀ p : PortIdx, s.profile.present p = true → pin ≠ s.profile.rx p ∧ pin ≠ s.profile.tx p) → t.role = 0)

/-! ### Encoding -/

/-- Decoding the word of a well-formed instruction gives it back, in all five formats and with every operand; a ROLE_OF
row on the profile that selects it. -/
def Obligations.DecodeEncodeRoundTrip : Prop :=
  ∀ (P : Profile) (i : Instr), i.wf = true → i.selectedBy P = true → decode P (encode i) = .ok i

/-- What the decoder reads is well-formed, selected by the profile, and encodes to the word read. -/
def Obligations.EncodeDecodeRoundTrip : Prop :=
  ∀ (P : Profile) (w : InputWord) (i : Instr), decode P w = .ok i →
    encode i = w ∧ i.wf = true ∧ i.selectedBy P = true

/-- Words written out from the spec's encodings (R76, R77, R82, R83) decode to their rows. -/
def Obligations.TableWordsDecode : Prop :=
  ∀ P : Profile,
    decode P (.lineOpt 0b0000000011000110) = .ok (.encode6E2 0) ∧
    decode P (.lineOpt 0b1111111100000000) = .ok (.encode8N1 0b1111111) ∧
    decode P (.lineOpt 0b0000000100010010) = .ok (.encode8S2 0) ∧
    decode P (.lineOpt 0b0000000100000001) = .ok (.encodeDefault 0x0101) ∧
    decode P (.portId 0b00000010) = .ok .lookupPinsHw2 ∧
    decode P (.portId 0b00010001) = .ok (.lookupPinsSentinel 0x11) ∧
    decode P (.cmd 0b01101010) = .ok (.cmdFlush 0b1010) ∧
    decode P (.cmdSubMode 0b00000001) = .ok .cmdReadRequestModeStop

/-- R87, R33: the decoder rejects exactly the command words that no row covers and the numbers of more than `PIN_W` bits,
which PROLE's input cannot carry; a step that meets one is refused by name. That the former are refused is the spec's
treatment for a command-layer model (log entry 8), that the latter are is the model's choice (log entry 1). -/
def Obligations.UnlistedCommandWordsAreRejected : Prop :=
  ∀ (P : Profile) (w : InputWord),
    ((∃ e, decode P w = .error e) ↔
      (∃ c : CommandByte, w = .cmd c ∧ (c.toNat / 16 = 0 ∨ 8 ≤ c.toNat / 16)) ∨
        (∃ m : BitVec 8, w = .cmdSubMode m ∧ 2 ≤ m.toNat) ∨ ∃ pin, w = .pin pin ∧ 2 ^ P.pinW ≤ pin) ∧
    ∀ (s : State) (rest : List InputWord) (e : DecodeError), s.profile = P → s.Configured →
      s.requests = w :: rest → decode P w = .error e → step s = .refused (.undecodable e)

/-- R81, R82: a command byte holds its opcode in [7:4] and the port identifier in [3:0], with the values of the
table. -/
def Obligations.CommandBytesOfTheVocabulary : Prop :=
  ∀ e ∈ [(Instr.cmdConfigure, 0x10#8), (.cmdWrite, 0x20), (.cmdReadRequest, 0x30), (.cmdReply, 0x40),
      (.cmdClose, 0x50), (.cmdFlush, 0x60), (.cmdListenSubscribe, 0x70)],
    encode (e.1 0) = .cmd e.2 ∧
    ∀ port : BitVec 4, ∃ c : CommandByte, encode (e.1 port) = .cmd c ∧
      16 * (opcodeNibble c).toNat = e.2.toNat ∧ portNibble c = port ∧ c.toNat = e.2.toNat + port.toNat

/-- R71, R72, R76: a word assembled from any codes and any ignored bits has those codes as its fields, and
`(d << 5) | (p << 2) | s` is that word with the ignored bits clear. -/
def Obligations.AssembledWordHasItsFields : Prop :=
  ∀ (x : BitVec 7) (d : BitVec 4) (p : BitVec 3) (s : BitVec 2) (o : LineOptions),
    o.toNat = x.toNat * 512 + d.toNat * 32 + p.toNat * 4 + s.toNat →
    dataField o = d ∧ parityField o = p ∧ stopField o = s ∧ ignoredField o = x ∧
      (x = 0 → o = assembleOptions d p s)

/-! ### LCE -/

/-- R140: every ENCODE row, on every word it can carry, completes with the token of the pseudocode; the next state says
all that changes. The sample, and what a default row does with a word it is not selected for, are the model's choices
(log entries 6 and 10). -/
def Obligations.EncodeRowsRefinePseudocode : Prop :=
  ∀ (i : Instr) (o : LineOptions) (s : State), encode i = .lineOpt o → s.Configured →
    exec i s = .next { s with
      options := o
      cfg := s.profile.encode o
      samples := s.samples ++ [.cfg (s.profile.encode o)] }

/-- One row of R149's table: the words of data bits 5, 6, 7 and 8 for one parity and one stop code. -/
def lineOptRow (p : Parity) (st : StopBits) (w5 w6 w7 w8 : LineOptions) :
    List (LineOptions × Parity × StopBits × DataBits) :=
  [(w5, p, st, .five), (w6, p, st, .six), (w7, p, st, .seven), (w8, p, st, .eight)]

/-- R149's words, each with its triple. -/
def lineOptTable : List (LineOptions × Parity × StopBits × DataBits) :=
  List.flatten [
    lineOptRow .noParity .one 0x00A0 0x00C0 0x00E0 0x0100,
    lineOptRow .noParity .two 0x00A2 0x00C2 0x00E2 0x0102,
    lineOptRow .even .one 0x00A4 0x00C4 0x00E4 0x0104,
    lineOptRow .even .two 0x00A6 0x00C6 0x00E6 0x0106,
    lineOptRow .odd .one 0x00A8 0x00C8 0x00E8 0x0108,
    lineOptRow .odd .two 0x00AA 0x00CA 0x00EA 0x010A,
    lineOptRow .mark .one 0x00AC 0x00CC 0x00EC 0x010C,
    lineOptRow .mark .two 0x00AE 0x00CE 0x00EE 0x010E,
    lineOptRow .space .one 0x00B0 0x00D0 0x00F0 0x0110,
    lineOptRow .space .two 0x00B2 0x00D2 0x00F2 0x0112]

/-- R149: the decision table. A word with a listed low part gets its triple's token, or `T_8N1` when it is `none` or
the row is extended and `P.ext_parity` does not hold; every other word gets `T_8N1`. -/
def Obligations.DecisionTableGivesTheToken : Prop :=
  ∀ (s : State) (o : LineOptions), s.Configured →
    ∃ i t T8N1, decode s.profile (.lineOpt o) = .ok i ∧ exec i s = .next t ∧
      s.profile.token .noParity .one .eight = some T8N1 ∧
      (∀ e ∈ lineOptTable, o &&& 0x01FF = e.1 →
        t.cfg = if (e.2.1 = .mark ∨ e.2.1 = .space) ∧ s.profile.extParity = false then T8N1
          else (s.profile.token e.2.1 e.2.2.1 e.2.2.2).getD T8N1) ∧
      ((∀ e ∈ lineOptTable, o &&& 0x01FF ≠ e.1) → t.cfg = T8N1)

/-- R142: a field outside its recognised set, or a triple without a token, gives `T_8N1`, and nothing else is signalled:
no other output changes. -/
def Obligations.UnsupportedOptionsGiveTheDefault : Prop :=
  ∀ (s : State) (o : LineOptions) (T8N1 : Cfg), s.Configured →
    s.profile.token .noParity .one .eight = some T8N1 →
    ((s.profile.parityOk (parityField o) = false ∨ stopOk (stopField o) = false ∨ dataOk (dataField o) = false) ∨
      ∃ p st d, tripleOf o = some (p, st, d) ∧ s.profile.token p st d = none) →
    ∃ i t, decode s.profile (.lineOpt o) = .ok i ∧ exec i s = .next t ∧ t.cfg = T8N1 ∧
      t.rxPin = s.rxPin ∧ t.txPin = s.txPin ∧ t.role = s.role

/-- R143: parity codes 3 and 4 are recognised only when `P.ext_parity` is true; otherwise they give `T_8N1`. -/
def Obligations.ExtendedParityNeedsTheCapability : Prop :=
  ∀ (s : State) (o : LineOptions), s.Configured → parityField o = 3 ∨ parityField o = 4 →
    ∃ i t, decode s.profile (.lineOpt o) = .ok i ∧ exec i s = .next t ∧
      (s.profile.extParity = false → some t.cfg = s.profile.token .noParity .one .eight) ∧
      (s.profile.extParity = true → ∀ p st d c, tripleOf o = some (p, st, d) →
        s.profile.token p st d = some c → t.cfg = c)

/-- R144: stop code 1 gives `T_8N1`, whatever the data and parity fields hold. -/
def Obligations.OnePointFiveStopBitsGiveTheDefault : Prop :=
  ∀ (s : State) (x : BitVec 7) (d : BitVec 4) (p : BitVec 3), s.Configured →
    ∃ i t, decode s.profile (.lineOpt (x ++ d ++ p ++ 1#2)) = .ok i ∧ exec i s = .next t ∧
      some t.cfg = s.profile.token .noParity .one .eight

/-- R145: bits [15:9] never change the result. -/
def Obligations.IgnoredBitsDoNotMatter : Prop :=
  ∀ (P : Profile) (o : LineOptions), P.encode o = P.encode (o &&& 0x01FF)

/-- R146: exactly one token for each input word, and it is a value of `P.token` at a recognised key. -/
def Obligations.EncodeIsTotalOnRecognisedTokens : Prop :=
  ∀ (s : State) (o : LineOptions), s.Configured →
    ∃ i t p st d, decode s.profile (.lineOpt o) = .ok i ∧ exec i s = .next t ∧
      s.profile.recognises p = true ∧ s.profile.token p st d = some t.cfg

/-- A word that selects a token of its own: a recognised triple whose token is defined (R150). Every other word is a
fallback of R142. -/
def ownToken (P : Profile) (o : LineOptions) : Bool :=
  match tripleOf o with
  | some (p, s, d) => P.recognises p && (P.token p s d).isSome
  | none => false

/-- R147: the 8N1 request gets `T_8N1`, and so does every fallback of R142 (a field that is not recognised, mark or space
parity without `P.ext_parity`, a recognised triple without a token), so the output does not tell them apart. -/
def Obligations.DefaultRequestLooksLikeFallback : Prop :=
  ∀ (P : Profile) (o : LineOptions),
    (P.failedCheck = none → P.token .noParity .one .eight = some (P.encode 0x0100)) ∧
    (ownToken P o = false → P.encode o = P.encode 0x0100)

/-- R150: with every recognised key defined, 24 or 40 of the 512 values of `options[8:0]`, and 3072 or 5120 of the 65536
words, select a token of their own, which is what ENCODE gives them; every other word gets `T_8N1`. -/
def Obligations.RecognisedSetSize : Prop :=
  ∀ P : Profile, (∀ p s d, P.recognises p = true → (P.token p s d).isSome) →
    ((List.range 512).countP fun n => ownToken P (BitVec.ofNat 16 n)) = (if P.extParity then 40 else 24) ∧
    ((List.range 65536).countP fun n => ownToken P (BitVec.ofNat 16 n)) = (if P.extParity then 5120 else 3072) ∧
    (∀ o p s d, tripleOf o = some (p, s, d) → ownToken P o = true → P.token p s d = some (P.encode o)) ∧
    ∀ o, ownToken P o = false → P.token .noParity .one .eight = some (P.encode o)

/-! ### PTAB -/

/-- R100: every LOOKUP_PINS row, on every identifier it can carry, completes with the pair of the pseudocode; the next
state says all that changes. The sample, and what the sentinel row does with an identifier it is not selected for, are
the model's choices (log entries 6 and 10). -/
def Obligations.LookupRowsRefinePseudocode : Prop :=
  ∀ (i : Instr) (id : PortId) (s : State), encode i = .portId id → s.Configured →
    exec i s = .next { s with
      portId := id
      rxPin := (s.profile.lookupPins id).rx
      txPin := (s.profile.lookupPins id).tx
      samples := s.samples ++ [.pins (s.profile.lookupPins id)] }

/-- R104: LOOKUP_PINS is total and idempotent, and under `WF(P)` gives (0, 0) exactly for the identifiers that are no
present hardware port's. -/
def Obligations.SentinelExactlyForAbsentPorts : Prop :=
  ∀ (s : State) (id : PortId), s.Configured →
    ∃ i t u, decode s.profile (.portId id) = .ok i ∧ exec i s = .next t ∧ exec i t = .next u ∧
      u.rxPin = t.rxPin ∧ u.txPin = t.txPin ∧
      ((t.rxPin = 0 ∧ t.txPin = 0) ↔
        ¬ ((id = 0x01 ∧ s.profile.present 1 = true) ∨ (id = 0x02 ∧ s.profile.present 2 = true) ∨
          (id = 0x03 ∧ s.profile.present 3 = true)))

/-- R55, R103, C1: every identifier but 0x01, 0x02 and 0x03 (port 0, ports 4 to 7, the software band and 0x10 to 0xFF)
gets the sentinel on every profile of this edition, and the caller reads it as unavailable (R101). -/
def Obligations.OtherIdentifiersGetTheSentinel : Prop :=
  ∀ (s : State) (id : PortId), s.Configured → id ≠ 0x01 → id ≠ 0x02 → id ≠ 0x03 →
    ∃ i t, decode s.profile (.portId id) = .ok i ∧ exec i s = .next t ∧ t.rxPin = 0 ∧ t.txPin = 0 ∧
      signalsUnknown (.pins ⟨t.rxPin, t.txPin⟩) = true

/-- R84, R195: the byte of any command, passed to PTAB unmasked, gets the sentinel; the caller's mask gives the port
identifier of its low nibble. -/
def Obligations.CommandByteNeedsTheMask : Prop :=
  ∀ (P : Profile) (i : Instr) (c : CommandByte), encode i = .cmd c →
    P.lookupPins c = PinPair.sentinel ∧ (maskIdentifier c).toNat = c.toNat % 16 ∧
      asmLookupPinsCmd c = .portId ((portNibble c).setWidth 8)

/-- R57: the two pins of a pair come from one present port, or both are 0. -/
def Obligations.PairComesFromOnePort : Prop :=
  ∀ (s t : State) (i : Instr) (id : PortId), encode i = .portId id → exec i s = .next t →
    (∃ p : PortIdx, s.profile.present p = true ∧ t.rxPin = s.profile.rx p ∧ t.txPin = s.profile.tx p) ∨
      (t.rxPin = 0 ∧ t.txPin = 0)

/-! ### PROLE -/

/-- R120: every ROLE_OF row, on every pin, completes with the code of the pseudocode; the next state says all that
changes. The sample, and what a row does with a pin that does not select it, are the model's choices (log entries 6
and 10). -/
def Obligations.RoleRowsRefinePseudocode : Prop :=
  ∀ (i : Instr) (pin : Pin) (s : State), encode i = .pin pin → s.Configured →
    exec i s = .next { s with
      pin := pin
      role := s.profile.roleOf pin
      samples := s.samples ++ [.role (s.profile.roleOf pin)] }

/-- A pin is the pin of a present port's role. -/
def isPresentRole (P : Profile) (pin : Pin) (p : SerialPort) (d : Dir) : Prop :=
  P.present p.idx = true ∧ pin = P.pinOf p d

/-- R121, R122: the earliest present role of a pin, in the order RX1, TX1, RX2, TX2, RX3, TX3, gives the code; and the
row the decoder picks is that role's. -/
def Obligations.EarliestRoleWins : Prop :=
  ∀ (s : State) (pin : Pin) (pre post : List (SerialPort × Dir)) (p : SerialPort) (d : Dir), s.Configured →
    [(SerialPort.one, Dir.rx), (.one, .tx), (.two, .rx), (.two, .tx), (.three, .rx), (.three, .tx)] =
      pre ++ (p, d) :: post →
    (∀ e ∈ pre, ¬ isPresentRole s.profile pin e.1 e.2) → isPresentRole s.profile pin p d →
    decode s.profile (.pin pin) = .ok (Instr.ofRole p d pin) ∧
      ∃ t, exec (Instr.ofRole p d pin) s = .next t ∧ t.role = s.profile.roleCode p d

/-- R26, R123: the pins of absent ports are never read. Two profiles that differ in them alone give every identifier the
same pair and every pin the same code, and a pin of no present port gets 0. -/
def Obligations.AbsentPortsPinsAreNeverRead : Prop :=
  ∀ P Q : Profile, P.roleCodes = Q.roleCodes → (∀ i : PortIdx, P.present i = Q.present i) →
    (∀ i : PortIdx, P.present i = true → P.rx i = Q.rx i ∧ P.tx i = Q.tx i) →
    (∀ id, P.lookupPins id = Q.lookupPins id) ∧ (∀ pin, P.roleOf pin = Q.roleOf pin) ∧
      ∀ pin, (∀ p : SerialPort, P.present p.idx = true → pin ≠ P.rx p.idx ∧ pin ≠ P.tx p.idx) → P.roleOf pin = 0

/-- R126: under `NO_ALIAS` ROLE_OF is the left inverse of the Port Table and gives 0 exactly for the pins of no present
port; without it, it still holds for the receive pin of the lowest present port and fails for a role whose pin an
earlier role has. -/
def Obligations.RoleOfIsLeftInverseOfLookup : Prop :=
  ∀ P : Profile, P.failedCheck = none →
    (P.NoAlias →
      (∀ p : SerialPort, P.present p.idx = true →
        P.roleOf (P.lookupPins p.id).rx = P.roleCode p .rx ∧ P.roleOf (P.lookupPins p.id).tx = P.roleCode p .tx) ∧
      ∀ pin, P.roleOf pin = 0 ↔ ∀ i : PortIdx, P.present i = true → pin ≠ P.rx i ∧ pin ≠ P.tx i) ∧
    (∀ p : SerialPort, P.present p.idx = true → (∀ q : SerialPort, q.idx < p.idx → P.present q.idx = false) →
      P.roleOf (P.lookupPins p.id).rx = P.roleCode p .rx) ∧
    ∀ (pre post : List (SerialPort × Dir)) (p : SerialPort) (d : Dir),
      [(SerialPort.one, Dir.rx), (.one, .tx), (.two, .rx), (.two, .tx), (.three, .rx), (.three, .tx)] =
        pre ++ (p, d) :: post →
      (∃ e ∈ pre, isPresentRole P (P.pinOf p d) e.1 e.2) → P.roleOf (P.pinOf p d) ≠ P.roleCode p d

/-- R127: ROLE_OF is total on the pins of `PIN_W` bits and idempotent, and its output is 0 or one of the six role
codes. -/
def Obligations.RoleOutputIsZeroOrARoleCode : Prop :=
  ∀ (s : State) (pin : Pin), s.Configured → pin < 2 ^ s.profile.pinW →
    ∃ i t u, decode s.profile (.pin pin) = .ok i ∧ exec i s = .next t ∧ exec i t = .next u ∧ u.role = t.role ∧
      (t.role = 0 ∨ ∃ p d, t.role = s.profile.roleCode p d)

/-! ### Commands, frames and independence -/

/-- R84, R179: the block decodes no command, so each of the nine command words completes with the block and the
requester's side as they were. That a command word is an operation without effect, not none at all, is the model's
reading (log entry 7). -/
def Obligations.CommandsLeaveTheBlockUnchanged : Prop :=
  ∀ (s : State) (i : Instr), s.Configured →
    ((∃ c, encode i = .cmd c) ∨ ∃ m, encode i = .cmdSubMode m) → exec i s = .next s

/-- The frame of the LOOKUP_PINS rows: only PTAB's ports and the samples change. The samples are the
model's choice (log entry 6). -/
def Obligations.LookupFrame : Prop :=
  ∀ (i : Instr) (id : PortId) (s t : State), encode i = .portId id → exec i s = .next t →
    t.profile = s.profile ∧ t.pin = s.pin ∧ t.options = s.options ∧ t.role = s.role ∧ t.cfg = s.cfg ∧
      t.requests = s.requests ∧ t.portId = id ∧ t.samples = s.samples ++ [.pins ⟨t.rxPin, t.txPin⟩]

/-- The frame of the ROLE_OF rows: only PROLE's ports and the samples change. R125: nothing is reserved. The samples
are the model's choice (log entry 6). -/
def Obligations.RoleFrame : Prop :=
  ∀ (i : Instr) (pin : Pin) (s t : State), encode i = .pin pin → exec i s = .next t →
    t.profile = s.profile ∧ t.portId = s.portId ∧ t.options = s.options ∧ t.rxPin = s.rxPin ∧ t.txPin = s.txPin ∧
      t.cfg = s.cfg ∧ t.requests = s.requests ∧ t.pin = pin ∧ t.samples = s.samples ++ [.role t.role]

/-- The frame of the ENCODE rows: only LCE's ports and the samples change. The samples are the
model's choice (log entry 6). -/
def Obligations.EncodeFrame : Prop :=
  ∀ (i : Instr) (o : LineOptions) (s t : State), encode i = .lineOpt o → exec i s = .next t →
    t.profile = s.profile ∧ t.portId = s.portId ∧ t.pin = s.pin ∧ t.rxPin = s.rxPin ∧ t.txPin = s.txPin ∧
      t.role = s.role ∧ t.requests = s.requests ∧ t.options = o ∧ t.samples = s.samples ++ [.cfg t.cfg]

/-- R23: what an operation returns is a function of its word and the profile. Two configured states with one profile and
the same next word, whatever else they hold, both complete or are both refused, and get the same outputs. `requests`
and `samples` are the model's choice (log entries 5 and 6). -/
def Obligations.OutputsDependOnInputAndProfileOnly : Prop :=
  ∀ (s s' : State) (w : InputWord) (rest rest' : List InputWord), s.profile = s'.profile → s.Configured →
    s.requests = w :: rest → s'.requests = w :: rest' →
    (∃ e, step s = .refused e ∧ step s' = .refused e) ∨
      ∃ t t' out, step s = .next t ∧ step s' = .next t' ∧ t.samples = s.samples ++ out ∧
        t'.samples = s'.samples ++ out ∧ out.length ≤ 1

/-- Two words are carried on the same unit. -/
def sameUnit : InputWord → InputWord → Bool
  | .lineOpt _, .lineOpt _ => true
  | .portId _, .portId _ => true
  | .pin _, .pin _ => true
  | _, _ => false

/-- R60, R173: the order of two operations changes neither what each returns nor, on different units, what the ports
hold afterwards. The samples are the model's choice (log entry 6). -/
def Obligations.OperationsCommute : Prop :=
  ∀ (i j : Instr) (s : State), s.Configured →
    ∃ ti tij tj tji a b, exec i s = .next ti ∧ exec j ti = .next tij ∧ exec j s = .next tj ∧
      exec i tj = .next tji ∧ tij.samples = s.samples ++ a ++ b ∧ tji.samples = s.samples ++ b ++ a ∧
      ti.samples = s.samples ++ a ∧ tj.samples = s.samples ++ b ∧
      (sameUnit (encode i) (encode j) = false → { tij with samples := [] } = { tji with samples := [] })
end

