-- ==== Sys2Proof/Laws/State.lean ====
section
/-! SUPPORT. What each update of the state does to each field, so that no later proof unfolds a record update. -/

namespace Sys2Proof.Machine

variable (s : State)

@[simp] theorem State.drivePtab_profile (id : PortId) (pair : PinPair) :
    (s.drivePtab id pair).profile = s.profile := rfl
@[simp] theorem State.drivePtab_portId (id : PortId) (pair : PinPair) : (s.drivePtab id pair).portId = id := rfl
@[simp] theorem State.drivePtab_pin (id : PortId) (pair : PinPair) : (s.drivePtab id pair).pin = s.pin := rfl
@[simp] theorem State.drivePtab_options (id : PortId) (pair : PinPair) :
    (s.drivePtab id pair).options = s.options := rfl
@[simp] theorem State.drivePtab_rxPin (id : PortId) (pair : PinPair) : (s.drivePtab id pair).rxPin = pair.rx := rfl
@[simp] theorem State.drivePtab_txPin (id : PortId) (pair : PinPair) : (s.drivePtab id pair).txPin = pair.tx := rfl
@[simp] theorem State.drivePtab_role (id : PortId) (pair : PinPair) : (s.drivePtab id pair).role = s.role := rfl
@[simp] theorem State.drivePtab_cfg (id : PortId) (pair : PinPair) : (s.drivePtab id pair).cfg = s.cfg := rfl
@[simp] theorem State.drivePtab_requests (id : PortId) (pair : PinPair) :
    (s.drivePtab id pair).requests = s.requests := rfl
@[simp] theorem State.drivePtab_samples (id : PortId) (pair : PinPair) :
    (s.drivePtab id pair).samples = s.samples ++ [.pins pair] := rfl

@[simp] theorem State.driveProle_profile (pin : Pin) (code : Role) :
    (s.driveProle pin code).profile = s.profile := rfl
@[simp] theorem State.driveProle_portId (pin : Pin) (code : Role) : (s.driveProle pin code).portId = s.portId := rfl
@[simp] theorem State.driveProle_pin (pin : Pin) (code : Role) : (s.driveProle pin code).pin = pin := rfl
@[simp] theorem State.driveProle_options (pin : Pin) (code : Role) :
    (s.driveProle pin code).options = s.options := rfl
@[simp] theorem State.driveProle_rxPin (pin : Pin) (code : Role) : (s.driveProle pin code).rxPin = s.rxPin := rfl
@[simp] theorem State.driveProle_txPin (pin : Pin) (code : Role) : (s.driveProle pin code).txPin = s.txPin := rfl
@[simp] theorem State.driveProle_role (pin : Pin) (code : Role) : (s.driveProle pin code).role = code := rfl
@[simp] theorem State.driveProle_cfg (pin : Pin) (code : Role) : (s.driveProle pin code).cfg = s.cfg := rfl
@[simp] theorem State.driveProle_requests (pin : Pin) (code : Role) :
    (s.driveProle pin code).requests = s.requests := rfl
@[simp] theorem State.driveProle_samples (pin : Pin) (code : Role) :
    (s.driveProle pin code).samples = s.samples ++ [.role code] := rfl

@[simp] theorem State.driveLce_profile (o : LineOptions) (token : Cfg) :
    (s.driveLce o token).profile = s.profile := rfl
@[simp] theorem State.driveLce_portId (o : LineOptions) (token : Cfg) : (s.driveLce o token).portId = s.portId := rfl
@[simp] theorem State.driveLce_pin (o : LineOptions) (token : Cfg) : (s.driveLce o token).pin = s.pin := rfl
@[simp] theorem State.driveLce_options (o : LineOptions) (token : Cfg) : (s.driveLce o token).options = o := rfl
@[simp] theorem State.driveLce_rxPin (o : LineOptions) (token : Cfg) : (s.driveLce o token).rxPin = s.rxPin := rfl
@[simp] theorem State.driveLce_txPin (o : LineOptions) (token : Cfg) : (s.driveLce o token).txPin = s.txPin := rfl
@[simp] theorem State.driveLce_role (o : LineOptions) (token : Cfg) : (s.driveLce o token).role = s.role := rfl
@[simp] theorem State.driveLce_cfg (o : LineOptions) (token : Cfg) : (s.driveLce o token).cfg = token := rfl
@[simp] theorem State.driveLce_requests (o : LineOptions) (token : Cfg) :
    (s.driveLce o token).requests = s.requests := rfl
@[simp] theorem State.driveLce_samples (o : LineOptions) (token : Cfg) :
    (s.driveLce o token).samples = s.samples ++ [.cfg token] := rfl

@[simp] theorem State.withRequest_profile (w : InputWord) : (s.withRequest w).profile = s.profile := rfl
@[simp] theorem State.withRequest_portId (w : InputWord) : (s.withRequest w).portId = s.portId := rfl
@[simp] theorem State.withRequest_pin (w : InputWord) : (s.withRequest w).pin = s.pin := rfl
@[simp] theorem State.withRequest_options (w : InputWord) : (s.withRequest w).options = s.options := rfl
@[simp] theorem State.withRequest_rxPin (w : InputWord) : (s.withRequest w).rxPin = s.rxPin := rfl
@[simp] theorem State.withRequest_txPin (w : InputWord) : (s.withRequest w).txPin = s.txPin := rfl
@[simp] theorem State.withRequest_role (w : InputWord) : (s.withRequest w).role = s.role := rfl
@[simp] theorem State.withRequest_cfg (w : InputWord) : (s.withRequest w).cfg = s.cfg := rfl
@[simp] theorem State.withRequest_requests (w : InputWord) : (s.withRequest w).requests = w :: s.requests := rfl
@[simp] theorem State.withRequest_samples (w : InputWord) : (s.withRequest w).samples = s.samples := rfl

@[simp] theorem State.powerUp_profile (P : Profile) : (State.powerUp P).profile = P := rfl
@[simp] theorem State.powerUp_portId (P : Profile) : (State.powerUp P).portId = 0 := rfl
@[simp] theorem State.powerUp_pin (P : Profile) : (State.powerUp P).pin = 0 := rfl
@[simp] theorem State.powerUp_options (P : Profile) : (State.powerUp P).options = 0 := rfl
@[simp] theorem State.powerUp_rxPin (P : Profile) : (State.powerUp P).rxPin = (P.lookupPins 0).rx := rfl
@[simp] theorem State.powerUp_txPin (P : Profile) : (State.powerUp P).txPin = (P.lookupPins 0).tx := rfl
@[simp] theorem State.powerUp_role (P : Profile) : (State.powerUp P).role = P.roleOf 0 := rfl
@[simp] theorem State.powerUp_cfg (P : Profile) : (State.powerUp P).cfg = P.encode 0 := rfl
@[simp] theorem State.powerUp_requests (P : Profile) : (State.powerUp P).requests = [] := rfl
@[simp] theorem State.powerUp_samples (P : Profile) : (State.powerUp P).samples = [] := rfl

theorem State.fetch_nil (h : s.requests = []) : s.fetch = none := by simp [State.fetch, h]

theorem State.fetch_cons (w : InputWord) (rest : List InputWord) (h : s.requests = w :: rest) :
    s.fetch = some (w, { s with requests := rest }) := by simp [State.fetch, h]

end Sys2Proof.Machine
end

