-- ==== Sys2Proof/Laws/Ops.lean ====
section
/-! SUPPORT. What the shared operations can do: one inversion lemma for the configuration guard, and what each drive
does to settled outputs. -/

namespace Sys2Proof.Machine

variable {s t u : State}

/-- The guard answers the given state under `WF(P)`. -/
theorem State.whenConfigured_of_configured (h : s.Configured) : s.whenConfigured t = .next t := by
  simp [State.whenConfigured, h]

/-- The guard refuses an ill-formed profile under the failed check's name. -/
theorem State.whenConfigured_of_failed {c : WfCheck} (h : s.profile.failedCheck = some c) :
    s.whenConfigured t = .refused (.illFormedProfile c) := by
  simp [State.whenConfigured, h]

/-- Everything the guard can do when it answers a next state. -/
theorem State.whenConfigured_eq_next : s.whenConfigured t = .next u ↔ s.Configured ∧ u = t := by
  unfold State.whenConfigured State.Configured
  cases s.profile.failedCheck <;> simp [eq_comm]

/-- A command word leaves a configured block's state as it is, and can do nothing else. -/
theorem State.notDecodedByBlock_eq_next : s.notDecodedByBlock = .next u ↔ s.Configured ∧ u = s :=
  State.whenConfigured_eq_next

/-- Everything fetching can do when it finds an operation. -/
theorem State.fetch_eq_some {w : InputWord} :
    s.fetch = some (w, t) ↔ ∃ rest, s.requests = w :: rest ∧ t = { s with requests := rest } := by
  unfold State.fetch
  cases s.requests <;> simp [eq_comm]

/-- Configuring succeeds exactly under `WF(P)`, with the powered-up block. -/
theorem configure_eq_next {P : Profile} : configure P = .next t ↔ P.failedCheck = none ∧ t = State.powerUp P :=
  State.whenConfigured_eq_next

/-- PTAB driven with its own function's pair stays settled, and the other units do not notice. -/
theorem State.settled_drivePtab (h : s.Settled) (id : PortId) {pair : PinPair}
    (hp : pair = s.profile.lookupPins id) : (s.drivePtab id pair).Settled :=
  ⟨hp, h.2.1, h.2.2⟩

/-- PROLE driven with its own function's code stays settled. -/
theorem State.settled_driveProle (h : s.Settled) (pin : Pin) {code : Role}
    (hc : code = s.profile.roleOf pin) : (s.driveProle pin code).Settled :=
  ⟨h.1, hc, h.2.2⟩

/-- LCE driven with its own function's token stays settled. -/
theorem State.settled_driveLce (h : s.Settled) (o : LineOptions) {token : Cfg}
    (ht : token = s.profile.encode o) : (s.driveLce o token).Settled :=
  ⟨h.1, h.2.1, ht⟩

end Sys2Proof.Machine
end

