-- ==== Sys2Proof/Laws/PerInstr.lean ====
section
/-! SUPPORT. Family RowPattern: an encoded instruction has the fixed bits of its row of spec/opcode_table.json, its
mask and match read from the table (30_encoding.md R88), and is carried in its row's format. -/

namespace Sys2Proof.Laws.RowPattern

/-- The encoded word has its table row's format, and under the row's mask it is the row's match. A ROLE_OF row has no
fixed bits: only its format is said. -/
def Statement (i : Instr) : Prop :=
  match i, encode i with
  | .encode5N1 _, .lineOpt w => w &&& 0x01FF = 0x00A0
  | .encode6N1 _, .lineOpt w => w &&& 0x01FF = 0x00C0
  | .encode7N1 _, .lineOpt w => w &&& 0x01FF = 0x00E0
  | .encode8N1 _, .lineOpt w => w &&& 0x01FF = 0x0100
  | .encode5N2 _, .lineOpt w => w &&& 0x01FF = 0x00A2
  | .encode6N2 _, .lineOpt w => w &&& 0x01FF = 0x00C2
  | .encode7N2 _, .lineOpt w => w &&& 0x01FF = 0x00E2
  | .encode8N2 _, .lineOpt w => w &&& 0x01FF = 0x0102
  | .encode5E1 _, .lineOpt w => w &&& 0x01FF = 0x00A4
  | .encode6E1 _, .lineOpt w => w &&& 0x01FF = 0x00C4
  | .encode7E1 _, .lineOpt w => w &&& 0x01FF = 0x00E4
  | .encode8E1 _, .lineOpt w => w &&& 0x01FF = 0x0104
  | .encode5E2 _, .lineOpt w => w &&& 0x01FF = 0x00A6
  | .encode6E2 _, .lineOpt w => w &&& 0x01FF = 0x00C6
  | .encode7E2 _, .lineOpt w => w &&& 0x01FF = 0x00E6
  | .encode8E2 _, .lineOpt w => w &&& 0x01FF = 0x0106
  | .encode5O1 _, .lineOpt w => w &&& 0x01FF = 0x00A8
  | .encode6O1 _, .lineOpt w => w &&& 0x01FF = 0x00C8
  | .encode7O1 _, .lineOpt w => w &&& 0x01FF = 0x00E8
  | .encode8O1 _, .lineOpt w => w &&& 0x01FF = 0x0108
  | .encode5O2 _, .lineOpt w => w &&& 0x01FF = 0x00AA
  | .encode6O2 _, .lineOpt w => w &&& 0x01FF = 0x00CA
  | .encode7O2 _, .lineOpt w => w &&& 0x01FF = 0x00EA
  | .encode8O2 _, .lineOpt w => w &&& 0x01FF = 0x010A
  | .encode5M1 _, .lineOpt w => w &&& 0x01FF = 0x00AC
  | .encode6M1 _, .lineOpt w => w &&& 0x01FF = 0x00CC
  | .encode7M1 _, .lineOpt w => w &&& 0x01FF = 0x00EC
  | .encode8M1 _, .lineOpt w => w &&& 0x01FF = 0x010C
  | .encode5M2 _, .lineOpt w => w &&& 0x01FF = 0x00AE
  | .encode6M2 _, .lineOpt w => w &&& 0x01FF = 0x00CE
  | .encode7M2 _, .lineOpt w => w &&& 0x01FF = 0x00EE
  | .encode8M2 _, .lineOpt w => w &&& 0x01FF = 0x010E
  | .encode5S1 _, .lineOpt w => w &&& 0x01FF = 0x00B0
  | .encode6S1 _, .lineOpt w => w &&& 0x01FF = 0x00D0
  | .encode7S1 _, .lineOpt w => w &&& 0x01FF = 0x00F0
  | .encode8S1 _, .lineOpt w => w &&& 0x01FF = 0x0110
  | .encode5S2 _, .lineOpt w => w &&& 0x01FF = 0x00B2
  | .encode6S2 _, .lineOpt w => w &&& 0x01FF = 0x00D2
  | .encode7S2 _, .lineOpt w => w &&& 0x01FF = 0x00F2
  | .encode8S2 _, .lineOpt w => w &&& 0x01FF = 0x0112
  | .encodeDefault _, .lineOpt w => w &&& 0x0000 = 0x0000
  | .lookupPinsHw1, .portId w => w &&& 0xFF = 0x01
  | .lookupPinsHw2, .portId w => w &&& 0xFF = 0x02
  | .lookupPinsHw3, .portId w => w &&& 0xFF = 0x03
  | .lookupPinsSentinel _, .portId w => w &&& 0x00 = 0x00
  | .roleOfRx1 _, .pin _ => True
  | .roleOfTx1 _, .pin _ => True
  | .roleOfRx2 _, .pin _ => True
  | .roleOfTx2 _, .pin _ => True
  | .roleOfRx3 _, .pin _ => True
  | .roleOfTx3 _, .pin _ => True
  | .roleOfNone _, .pin _ => True
  | .cmdConfigure _, .cmd w => w &&& 0xF0 = 0x10
  | .cmdWrite _, .cmd w => w &&& 0xF0 = 0x20
  | .cmdReadRequest _, .cmd w => w &&& 0xF0 = 0x30
  | .cmdReply _, .cmd w => w &&& 0xF0 = 0x40
  | .cmdClose _, .cmd w => w &&& 0xF0 = 0x50
  | .cmdFlush _, .cmd w => w &&& 0xF0 = 0x60
  | .cmdListenSubscribe _, .cmd w => w &&& 0xF0 = 0x70
  | .cmdReadRequestModeContinuous, .cmdSubMode w => w &&& 0xFF = 0x00
  | .cmdReadRequestModeStop, .cmdSubMode w => w &&& 0xFF = 0x01
  | _, _ => False

/-- A word whose low nine bits are `m` has `m` under the LINEOPT mask. -/
theorem lineOpt_match (x : BitVec 7) (m : BitVec 9) :
    ((x ++ m : BitVec 16) &&& 0x01FF) = m.setWidth 16 := by
  apply BitVec.eq_of_toNat_eq
  have hm := m.isLt
  simp only [BitVec.toNat_and, BitVec.toNat_append, BitVec.toNat_setWidth]
  change _ &&& (2 ^ 9 - 1) = _
  rw [Nat.and_two_pow_sub_one_eq_mod, Nat.shiftLeft_eq, Nat.mul_comm, ← Nat.two_pow_add_eq_or_of_lt hm]
  omega

/-- A byte whose high nibble is `o` has `o` there under the CMD mask. -/
theorem cmd_match (o p : BitVec 4) : ((o ++ p : BitVec 8) &&& 0xF0) = o ++ 0x0#4 := by
  revert o p; decide

theorem encode5N1 (x : BitVec 7) : Statement (.encode5N1 x) := lineOpt_match x _
theorem encode6N1 (x : BitVec 7) : Statement (.encode6N1 x) := lineOpt_match x _
theorem encode7N1 (x : BitVec 7) : Statement (.encode7N1 x) := lineOpt_match x _
theorem encode8N1 (x : BitVec 7) : Statement (.encode8N1 x) := lineOpt_match x _
theorem encode5N2 (x : BitVec 7) : Statement (.encode5N2 x) := lineOpt_match x _
theorem encode6N2 (x : BitVec 7) : Statement (.encode6N2 x) := lineOpt_match x _
theorem encode7N2 (x : BitVec 7) : Statement (.encode7N2 x) := lineOpt_match x _
theorem encode8N2 (x : BitVec 7) : Statement (.encode8N2 x) := lineOpt_match x _
theorem encode5E1 (x : BitVec 7) : Statement (.encode5E1 x) := lineOpt_match x _
theorem encode6E1 (x : BitVec 7) : Statement (.encode6E1 x) := lineOpt_match x _
theorem encode7E1 (x : BitVec 7) : Statement (.encode7E1 x) := lineOpt_match x _
theorem encode8E1 (x : BitVec 7) : Statement (.encode8E1 x) := lineOpt_match x _
theorem encode5E2 (x : BitVec 7) : Statement (.encode5E2 x) := lineOpt_match x _
theorem encode6E2 (x : BitVec 7) : Statement (.encode6E2 x) := lineOpt_match x _
theorem encode7E2 (x : BitVec 7) : Statement (.encode7E2 x) := lineOpt_match x _
theorem encode8E2 (x : BitVec 7) : Statement (.encode8E2 x) := lineOpt_match x _
theorem encode5O1 (x : BitVec 7) : Statement (.encode5O1 x) := lineOpt_match x _
theorem encode6O1 (x : BitVec 7) : Statement (.encode6O1 x) := lineOpt_match x _
theorem encode7O1 (x : BitVec 7) : Statement (.encode7O1 x) := lineOpt_match x _
theorem encode8O1 (x : BitVec 7) : Statement (.encode8O1 x) := lineOpt_match x _
theorem encode5O2 (x : BitVec 7) : Statement (.encode5O2 x) := lineOpt_match x _
theorem encode6O2 (x : BitVec 7) : Statement (.encode6O2 x) := lineOpt_match x _
theorem encode7O2 (x : BitVec 7) : Statement (.encode7O2 x) := lineOpt_match x _
theorem encode8O2 (x : BitVec 7) : Statement (.encode8O2 x) := lineOpt_match x _
theorem encode5M1 (x : BitVec 7) : Statement (.encode5M1 x) := lineOpt_match x _
theorem encode6M1 (x : BitVec 7) : Statement (.encode6M1 x) := lineOpt_match x _
theorem encode7M1 (x : BitVec 7) : Statement (.encode7M1 x) := lineOpt_match x _
theorem encode8M1 (x : BitVec 7) : Statement (.encode8M1 x) := lineOpt_match x _
theorem encode5M2 (x : BitVec 7) : Statement (.encode5M2 x) := lineOpt_match x _
theorem encode6M2 (x : BitVec 7) : Statement (.encode6M2 x) := lineOpt_match x _
theorem encode7M2 (x : BitVec 7) : Statement (.encode7M2 x) := lineOpt_match x _
theorem encode8M2 (x : BitVec 7) : Statement (.encode8M2 x) := lineOpt_match x _
theorem encode5S1 (x : BitVec 7) : Statement (.encode5S1 x) := lineOpt_match x _
theorem encode6S1 (x : BitVec 7) : Statement (.encode6S1 x) := lineOpt_match x _
theorem encode7S1 (x : BitVec 7) : Statement (.encode7S1 x) := lineOpt_match x _
theorem encode8S1 (x : BitVec 7) : Statement (.encode8S1 x) := lineOpt_match x _
theorem encode5S2 (x : BitVec 7) : Statement (.encode5S2 x) := lineOpt_match x _
theorem encode6S2 (x : BitVec 7) : Statement (.encode6S2 x) := lineOpt_match x _
theorem encode7S2 (x : BitVec 7) : Statement (.encode7S2 x) := lineOpt_match x _
theorem encode8S2 (x : BitVec 7) : Statement (.encode8S2 x) := lineOpt_match x _
theorem encodeDefault (options : LineOptions) : Statement (.encodeDefault options) := BitVec.and_zero
theorem lookupPinsHw1 : Statement .lookupPinsHw1 := rfl
theorem lookupPinsHw2 : Statement .lookupPinsHw2 := rfl
theorem lookupPinsHw3 : Statement .lookupPinsHw3 := rfl
theorem lookupPinsSentinel (id : PortId) : Statement (.lookupPinsSentinel id) := BitVec.and_zero
theorem roleOfRx1 (pin : Pin) : Statement (.roleOfRx1 pin) := trivial
theorem roleOfTx1 (pin : Pin) : Statement (.roleOfTx1 pin) := trivial
theorem roleOfRx2 (pin : Pin) : Statement (.roleOfRx2 pin) := trivial
theorem roleOfTx2 (pin : Pin) : Statement (.roleOfTx2 pin) := trivial
theorem roleOfRx3 (pin : Pin) : Statement (.roleOfRx3 pin) := trivial
theorem roleOfTx3 (pin : Pin) : Statement (.roleOfTx3 pin) := trivial
theorem roleOfNone (pin : Pin) : Statement (.roleOfNone pin) := trivial
theorem cmdConfigure (port : BitVec 4) : Statement (.cmdConfigure port) := cmd_match _ port
theorem cmdWrite (port : BitVec 4) : Statement (.cmdWrite port) := cmd_match _ port
theorem cmdReadRequest (port : BitVec 4) : Statement (.cmdReadRequest port) := cmd_match _ port
theorem cmdReply (port : BitVec 4) : Statement (.cmdReply port) := cmd_match _ port
theorem cmdClose (port : BitVec 4) : Statement (.cmdClose port) := cmd_match _ port
theorem cmdFlush (port : BitVec 4) : Statement (.cmdFlush port) := cmd_match _ port
theorem cmdListenSubscribe (port : BitVec 4) : Statement (.cmdListenSubscribe port) := cmd_match _ port
theorem cmdReadRequestModeContinuous : Statement .cmdReadRequestModeContinuous := rfl
theorem cmdReadRequestModeStop : Statement .cmdReadRequestModeStop := rfl

end Sys2Proof.Laws.RowPattern
end

