-- ==== Sys2Proof/Laws/Units.lean ====
section
/-! SUPPORT. The units' functions in the terms of the table's rows: fields of an assembled word, a triple row's token
against ENCODE, a hardware row's pair against LOOKUP_PINS, and the selected row against ROLE_OF; and what `WF(P)`
gives. -/

namespace Sys2Proof

/-! ### Codes -/

@[simp] theorem Parity.ofCode_code (p : Parity) : Parity.ofCode p.code = some p := by cases p <;> rfl

@[simp] theorem StopBits.ofCode_code (s : StopBits) : StopBits.ofCode s.code = some s := by cases s <;> rfl

@[simp] theorem DataBits.ofCode_code (d : DataBits) : DataBits.ofCode d.code = some d := by cases d <;> rfl

theorem Parity.code_of_ofCode {c : BitVec 3} {p : Parity} (h : Parity.ofCode c = some p) : p.code = c := by
  revert h; revert p c; decide +revert

theorem StopBits.code_of_ofCode {c : BitVec 2} {s : StopBits} (h : StopBits.ofCode c = some s) : s.code = c := by
  revert h; revert s c; decide +revert

theorem DataBits.code_of_ofCode {c : BitVec 4} {d : DataBits} (h : DataBits.ofCode c = some d) : d.code = c := by
  revert h; revert d c; decide +revert

/-! ### LineOptions words -/

/-- An appended word as a number. -/
theorem toNat_append_add {m n : Nat} (a : BitVec m) (b : BitVec n) :
    (a ++ b).toNat = 2 ^ n * a.toNat + b.toNat := by
  rw [BitVec.toNat_append, Nat.shiftLeft_eq, Nat.mul_comm, Nat.two_pow_add_eq_or_of_lt b.isLt]

/-- The four fields of a word laid out by R71. -/
theorem fields_append (x : BitVec 7) (d : BitVec 4) (p : BitVec 3) (s : BitVec 2) :
    ignoredField (x ++ d ++ p ++ s) = x ∧ dataField (x ++ d ++ p ++ s) = d ∧
      parityField (x ++ d ++ p ++ s) = p ∧ stopField (x ++ d ++ p ++ s) = s := by
  have hx := x.isLt; have hd := d.isLt; have hp := p.isLt; have hs := s.isLt
  refine ⟨?_, ?_, ?_, ?_⟩ <;> apply BitVec.eq_of_toNat_eq <;>
    simp only [ignoredField, dataField, parityField, stopField, BitVec.extractLsb'_toNat, toNat_append_add,
      Nat.shiftRight_eq_div_pow] <;> omega

/-- A word is its four fields laid out by R71: no bit is dropped. -/
theorem append_fields (o : LineOptions) :
    ignoredField o ++ dataField o ++ parityField o ++ stopField o = o := by
  have ho := o.isLt
  apply BitVec.eq_of_toNat_eq
  simp only [ignoredField, dataField, parityField, stopField, BitVec.extractLsb'_toNat, toNat_append_add,
    Nat.shiftRight_eq_div_pow]
  omega

@[simp] theorem ignoredField_optionsWord (x : BitVec 7) (p : Parity) (s : StopBits) (d : DataBits) :
    ignoredField (optionsWord x p s d) = x := (fields_append x d.code p.code s.code).1

@[simp] theorem dataField_optionsWord (x : BitVec 7) (p : Parity) (s : StopBits) (d : DataBits) :
    dataField (optionsWord x p s d) = d.code := (fields_append x d.code p.code s.code).2.1

@[simp] theorem parityField_optionsWord (x : BitVec 7) (p : Parity) (s : StopBits) (d : DataBits) :
    parityField (optionsWord x p s d) = p.code := (fields_append x d.code p.code s.code).2.2.1

@[simp] theorem stopField_optionsWord (x : BitVec 7) (p : Parity) (s : StopBits) (d : DataBits) :
    stopField (optionsWord x p s d) = s.code := (fields_append x d.code p.code s.code).2.2.2

@[simp] theorem tripleOf_optionsWord (x : BitVec 7) (p : Parity) (s : StopBits) (d : DataBits) :
    tripleOf (optionsWord x p s d) = some (p, s, d) := by simp [tripleOf]

/-- A word that falls under a triple row is that triple's word. -/
theorem optionsWord_of_tripleOf {o : LineOptions} {p : Parity} {s : StopBits} {d : DataBits}
    (h : tripleOf o = some (p, s, d)) : optionsWord (ignoredField o) p s d = o := by
  unfold tripleOf at h
  split at h
  · rename_i hp hs hd
    simp only [Option.some.injEq, Prod.mk.injEq] at h
    obtain ⟨rfl, rfl, rfl⟩ := h
    rw [optionsWord, Parity.code_of_ofCode hp, StopBits.code_of_ofCode hs, DataBits.code_of_ofCode hd,
      append_fields]
  · cases h

/-! ### ENCODE -/

/-- The codes of a triple row are recognised exactly when the row's condition on the parity holds. -/
theorem Profile.codesOk (P : Profile) (p : Parity) (s : StopBits) (d : DataBits) :
    (P.parityOk p.code && stopOk s.code && dataOk d.code) = P.recognises p := by
  cases p <;> cases s <;> cases d <;> simp [Profile.parityOk, stopOk, dataOk, Profile.recognises, Parity.code,
    StopBits.code, DataBits.code]

/-- Codes that are all recognised are those of a triple. -/
theorem Profile.triple_of_codesOk {P : Profile} {o : LineOptions}
    (h : (P.parityOk (parityField o) && stopOk (stopField o) && dataOk (dataField o)) = true) :
    (tripleOf o).isSome := by
  simp only [Bool.and_eq_true] at h
  obtain ⟨⟨hp, hs⟩, hd⟩ := h
  have hp' : (Parity.ofCode (parityField o)).isSome := by
    simp only [Profile.parityOk, Bool.or_eq_true, Bool.and_eq_true, beq_iff_eq] at hp
    rcases hp with ((h | h) | h) | ⟨-, h | h⟩ <;> rw [h] <;> rfl
  have hs' : (StopBits.ofCode (stopField o)).isSome := by
    simp only [stopOk, Bool.or_eq_true, beq_iff_eq] at hs
    rcases hs with h | h <;> rw [h] <;> rfl
  have hd' : (DataBits.ofCode (dataField o)).isSome := by
    simp only [dataOk, Bool.or_eq_true, beq_iff_eq] at hd
    rcases hd with ((h | h) | h) | h <;> rw [h] <;> rfl
  obtain ⟨p, hp⟩ := Option.isSome_iff_exists.1 hp'
  obtain ⟨s, hs⟩ := Option.isSome_iff_exists.1 hs'
  obtain ⟨d, hd⟩ := Option.isSome_iff_exists.1 hd'
  simp [tripleOf, hp, hs, hd]

/-- A triple row's token is what ENCODE gives the row's words (R140, R149). -/
theorem Profile.encode_optionsWord (P : Profile) (x : BitVec 7) (p : Parity) (s : StopBits) (d : DataBits) :
    P.encode (optionsWord x p s d) = P.rowToken p s d := by
  simp only [Profile.encode, parityField_optionsWord, stopField_optionsWord, dataField_optionsWord,
    Profile.codesOk, Profile.tokenAt, Parity.ofCode_code, StopBits.ofCode_code, DataBits.ofCode_code,
    Profile.rowToken]
  cases P.token p s d <;> simp

/-- A word under no triple row gets the default token (R142). -/
theorem Profile.encode_of_tripleOf_none {P : Profile} {o : LineOptions} (h : tripleOf o = none) :
    P.encode o = P.defaultToken := by
  unfold Profile.encode
  split
  · rename_i hc
    have := Profile.triple_of_codesOk hc
    simp [h] at this
  · rfl

/-! ### LOOKUP_PINS -/

/-- A hardware port's identifier selects its own entry (R54, R100). -/
theorem Profile.lookupPins_id (P : Profile) (p : SerialPort) :
    P.lookupPins p.id = if P.present p.idx = true then P.pins p.idx else PinPair.sentinel := by
  have hid : p.id ≤ 0x07 := by cases p <;> decide
  have hidx : portIndex p.id = p.idx := by cases p <;> rfl
  simp only [Profile.lookupPins, hid, hidx, true_and]

/-! ### ROLE_OF -/

/-- ROLE_OF gives the code of the row the pin selects, and 0 when it selects none (R120, R121). -/
theorem Profile.roleOf_eq_selected (P : Profile) (pin : Pin) :
    P.roleOf pin = match P.selectedRole pin with
      | some (p, d) => P.roleCode p d
      | none => 0 := by
  unfold Profile.roleOf Profile.selectedRole rolePriority
  simp only [Profile.roleAtPort, List.find?_cons, List.find?_nil, Profile.roleMatches, Profile.pinOf]
  cases h1 : P.present SerialPort.one.idx <;> cases h2 : P.present SerialPort.two.idx <;>
    cases h3 : P.present SerialPort.three.idx <;> simp <;> grind

/-! ### Well-formed profiles -/

/-- `WF(P)` gives every check of R30. -/
theorem Profile.passes_of_failedCheck_none {P : Profile} (h : P.failedCheck = none) (c : WfCheck) :
    P.passes c = true := by
  simp only [Profile.failedCheck, List.find?_eq_none] at h
  have := h c (by cases c <;> simp)
  simpa using this

@[simp] theorem Profile.fitsPin_iff {P : Profile} {pin : Pin} : P.fitsPin pin = true ↔ pin < 2 ^ P.pinW :=
  decide_eq_true_iff

@[simp] theorem Profile.fitsCfg_iff {P : Profile} {token : Cfg} : P.fitsCfg token = true ↔ token < 2 ^ P.cfgW :=
  decide_eq_true_iff

/-- `cfgWidth` passes exactly when every token that can be read has `CFG_W` bits (D10). -/
theorem Profile.passes_cfgWidth_iff {P : Profile} :
    P.passes .cfgWidth = true ↔
      ∀ p s d token, P.recognises p = true → P.token p s d = some token → token < 2 ^ P.cfgW := by
  simp only [Profile.passes, Profile.readableTokens, List.all_eq_true, List.mem_flatMap, List.mem_filter,
    List.mem_cons, List.not_mem_nil, or_false, Option.all_eq_true]
  constructor
  · intro h p s d token hp ht
    have := h (P.token p s d) ⟨p, ⟨by cases p <;> simp [Parity.all], hp⟩, by cases s <;> cases d <;> simp⟩ token ht
    simpa using this
  · rintro h _ ⟨p, ⟨-, hp⟩, rfl | rfl | rfl | rfl | rfl | rfl | rfl | rfl⟩ token ht <;>
      exact Profile.fitsCfg_iff.2 (h _ _ _ _ hp ht)

/-- A present port's pins have `PIN_W` bits (D3). -/
theorem Profile.fitsPin_of_present {P : Profile} (h : P.failedCheck = none) {p : PortIdx} (hp : P.present p = true) :
    P.rx p < 2 ^ P.pinW ∧ P.tx p < 2 ^ P.pinW := by
  have hw := Profile.passes_of_failedCheck_none h .pinWidth
  simp only [Profile.passes, decide_eq_true_eq, Profile.fitsPin_iff] at hw
  exact hw p hp

/-- PTAB drives pins of `PIN_W` bits (R32). -/
theorem Profile.lookupPins_fits {P : Profile} (h : P.failedCheck = none) (id : PortId) :
    (P.lookupPins id).rx < 2 ^ P.pinW ∧ (P.lookupPins id).tx < 2 ^ P.pinW := by
  unfold Profile.lookupPins
  split
  · rename_i hp
    exact Profile.fitsPin_of_present h hp.2
  · exact ⟨Nat.two_pow_pos _, Nat.two_pow_pos _⟩

/-- Under `WF(P)` only ports 1, 2 and 3 can be present (R25). -/
theorem Profile.port_of_present {P : Profile} (h : P.failedCheck = none) {i : PortIdx} (hi : P.present i = true) :
    ∃ p : SerialPort, i = p.idx := by
  have h0 := Profile.passes_of_failedCheck_none h .port0
  have hh := Profile.passes_of_failedCheck_none h .high
  simp only [Profile.passes, beq_iff_eq, decide_eq_true_eq] at h0 hh
  by_cases h4 : 4 ≤ i
  · simp [hh i h4] at hi
  · have : i = 0 ∨ i = 1 ∨ i = 2 ∨ i = 3 := by clear hi; decide +revert
    rcases this with rfl | rfl | rfl | rfl
    · simp [h0] at hi
    · exact ⟨.one, rfl⟩
    · exact ⟨.two, rfl⟩
    · exact ⟨.three, rfl⟩

/-- Under `WF(P)` the default token is an entry of the table (R28). -/
theorem Profile.token_default {P : Profile} (h : P.failedCheck = none) :
    P.token .noParity .one .eight = some P.defaultToken := by
  have hd := Profile.passes_of_failedCheck_none h .defaultToken
  obtain ⟨t, ht⟩ := Option.isSome_iff_exists.1 hd
  simp [Profile.defaultToken, ht]

/-- Everything ENCODE can give under `WF(P)`: a token of the table at a recognised key (R146). -/
theorem Profile.encode_eq_token {P : Profile} (h : P.failedCheck = none) (o : LineOptions) :
    ∃ p s d, P.recognises p = true ∧ P.token p s d = some (P.encode o) := by
  have hd : ∃ p s d, P.recognises p = true ∧ P.token p s d = some P.defaultToken :=
    ⟨.noParity, .one, .eight, rfl, Profile.token_default h⟩
  cases ht : tripleOf o with
  | none => rwa [Profile.encode_of_tripleOf_none ht]
  | some key =>
    obtain ⟨p, s, d⟩ := key
    rw [← optionsWord_of_tripleOf ht, Profile.encode_optionsWord, Profile.rowToken]
    split
    · rename_i hr
      cases hk : P.token p s d with
      | none => simpa using hd
      | some token => exact ⟨p, s, d, hr, hk⟩
    · exact hd

/-- LCE drives a token of `CFG_W` bits (R34). -/
theorem Profile.encode_fits {P : Profile} (h : P.failedCheck = none) (o : LineOptions) :
    P.encode o < 2 ^ P.cfgW := by
  obtain ⟨p, s, d, hr, ht⟩ := Profile.encode_eq_token h o
  exact Profile.passes_cfgWidth_iff.1 (Profile.passes_of_failedCheck_none h .cfgWidth) p s d _ hr ht

end Sys2Proof
end

