-- ==== Sys2Proof/Laws/Rows.lean ====
section
/-! SUPPORT. What each shared row operation does, in the terms of its unit's function: a row applies its word and the
unit drives what the pseudocode gives for it. One lemma per row operation. -/

namespace Sys2Proof

/-- The word of a triple, its nine fixed bits together. -/
theorem optionsWord_eq_append (x : BitVec 7) (p : Parity) (s : StopBits) (d : DataBits) :
    optionsWord x p s d = (x ++ (d.code ++ p.code ++ s.code : BitVec 9) : BitVec 16) := by
  apply BitVec.eq_of_toNat_eq
  simp only [optionsWord, toNat_append_add]
  omega

/-- A triple row's constructor is encoded as the triple's word. -/
theorem encode_ofTriple (x : BitVec 7) (p : Parity) (s : StopBits) (d : DataBits) :
    encode (Instr.ofTriple p s d x) = .lineOpt (optionsWord x p s d) := by
  rw [optionsWord_eq_append]
  cases p <;> cases s <;> cases d <;> rfl

/-- A word that a triple row takes decodes to that row, with the word's ignored bits. -/
theorem decodeLineOpt_optionsWord (x : BitVec 7) (p : Parity) (s : StopBits) (d : DataBits) :
    decodeLineOpt (optionsWord x p s d) = Instr.ofTriple p s d x := by
  simp [decodeLineOpt]

/-- An instruction carried on LCE's input is the default row or a triple row. -/
theorem encode_lineOpt_cases {i : Instr} {o : LineOptions} (h : encode i = .lineOpt o) :
    i = .encodeDefault o ∨ ∃ p s d x, i = Instr.ofTriple p s d x ∧ o = optionsWord x p s d := by
  have triple {p s d x} (hi : i = Instr.ofTriple p s d x) :
      i = .encodeDefault o ∨ ∃ p s d x, i = Instr.ofTriple p s d x ∧ o = optionsWord x p s d :=
    .inr ⟨p, s, d, x, hi, by rw [hi, encode_ofTriple] at h; exact (InputWord.lineOpt.inj h).symm⟩
  cases i <;> simp only [encode, reduceCtorEq] at h
  case encode5N1 => exact triple (p := .noParity) (s := .one) (d := .five) rfl
  case encode6N1 => exact triple (p := .noParity) (s := .one) (d := .six) rfl
  case encode7N1 => exact triple (p := .noParity) (s := .one) (d := .seven) rfl
  case encode8N1 => exact triple (p := .noParity) (s := .one) (d := .eight) rfl
  case encode5N2 => exact triple (p := .noParity) (s := .two) (d := .five) rfl
  case encode6N2 => exact triple (p := .noParity) (s := .two) (d := .six) rfl
  case encode7N2 => exact triple (p := .noParity) (s := .two) (d := .seven) rfl
  case encode8N2 => exact triple (p := .noParity) (s := .two) (d := .eight) rfl
  case encode5E1 => exact triple (p := .even) (s := .one) (d := .five) rfl
  case encode6E1 => exact triple (p := .even) (s := .one) (d := .six) rfl
  case encode7E1 => exact triple (p := .even) (s := .one) (d := .seven) rfl
  case encode8E1 => exact triple (p := .even) (s := .one) (d := .eight) rfl
  case encode5E2 => exact triple (p := .even) (s := .two) (d := .five) rfl
  case encode6E2 => exact triple (p := .even) (s := .two) (d := .six) rfl
  case encode7E2 => exact triple (p := .even) (s := .two) (d := .seven) rfl
  case encode8E2 => exact triple (p := .even) (s := .two) (d := .eight) rfl
  case encode5O1 => exact triple (p := .odd) (s := .one) (d := .five) rfl
  case encode6O1 => exact triple (p := .odd) (s := .one) (d := .six) rfl
  case encode7O1 => exact triple (p := .odd) (s := .one) (d := .seven) rfl
  case encode8O1 => exact triple (p := .odd) (s := .one) (d := .eight) rfl
  case encode5O2 => exact triple (p := .odd) (s := .two) (d := .five) rfl
  case encode6O2 => exact triple (p := .odd) (s := .two) (d := .six) rfl
  case encode7O2 => exact triple (p := .odd) (s := .two) (d := .seven) rfl
  case encode8O2 => exact triple (p := .odd) (s := .two) (d := .eight) rfl
  case encode5M1 => exact triple (p := .mark) (s := .one) (d := .five) rfl
  case encode6M1 => exact triple (p := .mark) (s := .one) (d := .six) rfl
  case encode7M1 => exact triple (p := .mark) (s := .one) (d := .seven) rfl
  case encode8M1 => exact triple (p := .mark) (s := .one) (d := .eight) rfl
  case encode5M2 => exact triple (p := .mark) (s := .two) (d := .five) rfl
  case encode6M2 => exact triple (p := .mark) (s := .two) (d := .six) rfl
  case encode7M2 => exact triple (p := .mark) (s := .two) (d := .seven) rfl
  case encode8M2 => exact triple (p := .mark) (s := .two) (d := .eight) rfl
  case encode5S1 => exact triple (p := .space) (s := .one) (d := .five) rfl
  case encode6S1 => exact triple (p := .space) (s := .one) (d := .six) rfl
  case encode7S1 => exact triple (p := .space) (s := .one) (d := .seven) rfl
  case encode8S1 => exact triple (p := .space) (s := .one) (d := .eight) rfl
  case encode5S2 => exact triple (p := .space) (s := .two) (d := .five) rfl
  case encode6S2 => exact triple (p := .space) (s := .two) (d := .six) rfl
  case encode7S2 => exact triple (p := .space) (s := .two) (d := .seven) rfl
  case encode8S2 => exact triple (p := .space) (s := .two) (d := .eight) rfl
  case encodeDefault => rw [InputWord.lineOpt.inj h]; exact .inl rfl

/-- A ROLE_OF row matches only pins of a present port in its own direction. -/
theorem Profile.matches_of_selectedRole {P : Profile} {pin : Pin} {p : SerialPort} {d : Dir}
    (h : P.selectedRole pin = some (p, d)) : P.present p.idx = true ∧ pin = P.pinOf p d := by
  have := List.find?_some h
  simpa [Profile.roleMatches] using this

namespace Machine

variable (st : State)

theorem encodeRow_eq (p : Parity) (s : StopBits) (d : DataBits) (x : BitVec 7) :
    encodeRow p s d x st = st.whenConfigured
      (st.driveLce (optionsWord x p s d) (st.profile.encode (optionsWord x p s d))) := by
  rw [encodeRow, Profile.encode_optionsWord]

theorem encodeDefaultRow_eq (o : LineOptions) :
    encodeDefaultRow o st = st.whenConfigured (st.driveLce o (st.profile.encode o)) := by
  unfold encodeDefaultRow
  split
  · rename_i h
    rw [Profile.encode_of_tripleOf_none (Option.isNone_iff_eq_none.1 h)]
  · rfl

theorem hardwarePortRow_eq (p : SerialPort) :
    hardwarePortRow p st = st.whenConfigured (st.drivePtab p.id (st.profile.lookupPins p.id)) := by
  rw [hardwarePortRow, Profile.lookupPins_id]

theorem roleRow_eq (p : SerialPort) (d : Dir) (pin : Pin) :
    roleRow p d pin st = st.whenConfigured (st.driveProle pin (st.profile.roleOf pin)) := by
  unfold roleRow
  split
  · rename_i h
    rw [Profile.roleOf_eq_selected, h]
  · rfl

theorem noRoleRow_eq (pin : Pin) :
    noRoleRow pin st = st.whenConfigured (st.driveProle pin (st.profile.roleOf pin)) := by
  unfold noRoleRow
  split
  · rename_i h
    rw [Profile.roleOf_eq_selected, h]
  · rfl

/-- Under `WF(P)` the sentinel row drives what PTAB gives its identifier; without it every row refuses, so the
equation needs no hypothesis. -/
theorem sentinelRow_eq (id : PortId) :
    sentinelRow id st = st.whenConfigured (st.drivePtab id (st.profile.lookupPins id)) := by
  unfold sentinelRow
  split
  · rfl
  · rename_i hid
    cases hf : st.profile.failedCheck with
    | some c => rw [State.whenConfigured_of_failed hf, State.whenConfigured_of_failed hf]
    | none =>
      suffices h : st.profile.lookupPins id = PinPair.sentinel by rw [h]
      unfold Profile.lookupPins
      split
      · rename_i h
        obtain ⟨p, hp⟩ := Profile.port_of_present hf h.2
        have hle := h.1
        have : portIndex id ≠ p.idx := by clear hp h; cases p <;> revert id <;> decide
        exact absurd hp this
      · rfl

end Machine

end Sys2Proof
end

