-- ==== Sys2Proof/Laws/Step.lean ====
section
/-! SUPPORT. What an operation and a step can do: a next state only on a configured block, and a step either idles or
runs the decoded next operation. -/

namespace Sys2Proof.Machine

/-- An operation that completes found a configured block. -/
theorem configured_of_exec_eq_next {i : Instr} {s t : State} (h : exec i s = .next t) : s.Configured := by
  cases i <;> exact (State.whenConfigured_eq_next.1 h).1

/-- Everything a step can do when it answers a next state. -/
theorem step_eq_next_cases {s t : State} (h : step s = .next t) :
    s.Configured ∧ ((s.requests = [] ∧ t = s) ∨
      ∃ w rest i, s.requests = w :: rest ∧ decode s.profile w = .ok i ∧
        exec i { s with requests := rest } = .next t) := by
  unfold step at h
  split at h
  · cases h
  · rename_i hc
    refine ⟨hc, ?_⟩
    cases hr : s.requests with
    | nil =>
      rw [State.fetch_nil s hr] at h
      exact .inl ⟨rfl, (Host.Outcome.next.inj h).symm⟩
    | cons w rest =>
      rw [State.fetch_cons s w rest hr] at h
      simp only at h
      split at h
      · rename_i i hi
        exact .inr ⟨w, rest, i, rfl, hi, h⟩
      · cases h

end Sys2Proof.Machine
end

