-- ==== Sys2Proof/Tests/Slice0.lean ====
section
/-! SUPPORT. Tests: words written out from the spec's encodings, the vectors of 95_test_vectors.md (each a single step
on the fixtures TP_A, TP_B and TP_C), the profiles of 95 that must be refused, and a witness for the hypotheses of
every statement that has some. Expected values are the spec's, not the model's. -/

namespace Sys2Proof.Tests

open Sys2Proof Sys2Proof.Machine

/-! ### Fixtures (95_test_vectors.md; tokens are symbolic there, so any distinct values do) -/

/-- TP_A, with the AVR example tokens. -/
def tpA : Profile := Config.resetProfile

/-- All 40 tokens defined and distinct. -/
def allTokens : TokenTable where
  noParity := ⟨⟨some 1, some 2, some 3, some 4⟩, ⟨some 5, some 6, some 7, some 8⟩⟩
  even := ⟨⟨some 9, some 10, some 11, some 12⟩, ⟨some 13, some 14, some 15, some 16⟩⟩
  odd := ⟨⟨some 17, some 18, some 19, some 20⟩, ⟨some 21, some 22, some 23, some 24⟩⟩
  mark := ⟨⟨some 25, some 26, some 27, some 28⟩, ⟨some 29, some 30, some 31, some 32⟩⟩
  space := ⟨⟨some 33, some 34, some 35, some 36⟩, ⟨some 37, some 38, some 39, some 40⟩⟩

/-- TP_B: port 1 alone, on pins (0, 1), extended parity, 40 tokens. -/
def tpB : Profile where
  ports := #v[.absent, ⟨true, 0, 1⟩, .absent, .absent, .absent, .absent, .absent, .absent]
  extParity := true
  tokens := allTokens
  roleCodes := {}

/-- TP_C: ports 1 and 2 aliased, extended parity, no token for 5N2, of the extended ones only 8M1 and 8S1. -/
def tpC : Profile where
  ports := #v[.absent, ⟨true, 10, 11⟩, ⟨true, 11, 12⟩, .absent, .absent, .absent, .absent, .absent]
  extParity := true
  tokens :=
    { allTokens with
      noParity := ⟨⟨some 1, some 2, some 3, some 4⟩, ⟨none, some 6, some 7, some 8⟩⟩
      mark := ⟨⟨none, none, none, some 28⟩, .empty⟩
      space := ⟨⟨none, none, none, some 36⟩, .empty⟩ }
  roleCodes := {}

/-- TP_A with a pin of 9 bits and an 8N1 token of 16 bits, on a block of widths 9 and 16 (R8, D3, D10). -/
def tpWide : Profile :=
  { tpA with
    pinW := 9
    cfgW := 16
    ports := tpA.ports.set 1 ⟨true, 300, 18⟩
    tokens.noParity.one.eight := some 0x8006 }

/-- The powered-up block with operations to present. -/
def withProgram (P : Profile) (ws : List InputWord) : State := { State.powerUp P with requests := ws }

/-- What one step on `P` returns for a word. -/
def result (P : Profile) (w : InputWord) : Option Output :=
  match step (withProgram P [w]) with
  | .next t => t.samples.head?
  | _ => none

/-! ### Well-formed profiles (R30) -/

theorem test_fixtures_pass :
    tpA.failedCheck = none ∧ tpB.failedCheck = none ∧ tpC.failedCheck = none ∧ tpWide.failedCheck = none := by decide

/-- D3, D10: too narrow a width for the board's pins or the platform's tokens is refused. -/
theorem test_narrow_width_refused :
    { tpWide with pinW := 8 }.failedCheck = some .pinWidth ∧
      { tpWide with cfgW := 8 }.failedCheck = some .cfgWidth := by decide

theorem test_port0_refused :
    { tpA with ports := tpA.ports.set 0 ⟨true, 0, 1⟩ }.failedCheck = some .port0 := by decide

theorem test_high_refused : { tpA with ports := tpA.ports.set 4 ⟨true, 1, 2⟩ }.failedCheck = some .high := by decide

theorem test_pair_refused : { tpB with ports := tpB.ports.set 1 ⟨true, 0, 0⟩ }.failedCheck = some .pair := by decide

theorem test_default_refused :
    { tpA with tokens.noParity.one.eight := none }.failedCheck = some .defaultToken := by decide

theorem test_role_zero_refused : { tpA with roleCodes := { rx1 := 0 } }.failedCheck = some .role := by decide

theorem test_role_duplicate_refused :
    { tpA with roleCodes := { tx1 := 0x04 } }.failedCheck = some .role := by decide

/-! ### Ill-formed instructions (R88): one for each check of Instr.wf -/

theorem test_default_row_takes_no_triple_word :
    (Instr.encodeDefault 0xFF00).wf = false ∧ (Instr.encodeDefault 0x0101).wf = true := by decide

theorem test_sentinel_row_takes_no_hardware_id :
    (Instr.lookupPinsSentinel 0x01).wf = false ∧ (Instr.lookupPinsSentinel 0x02).wf = false ∧
      (Instr.lookupPinsSentinel 0x03).wf = false ∧ (Instr.lookupPinsSentinel 0x00).wf = true := by decide

theorem test_role_row_needs_its_pin :
    (Instr.roleOfRx2 11).selectedBy tpC = false ∧ (Instr.roleOfTx1 11).selectedBy tpC = true := by decide

/-! ### Decoding words written out from the encodings (opcode_table.json, R71, R77, R81) -/

theorem test_decode_parity_none : ∀ e ∈ [(0b0000000010100000#16, Instr.encode5N1 0),
      (0b0000000011000000#16, Instr.encode6N1 0),
      (0b0000000011100000#16, Instr.encode7N1 0),
      (0b0000000100000000#16, Instr.encode8N1 0),
      (0b0000000010100010#16, Instr.encode5N2 0),
      (0b0000000011000010#16, Instr.encode6N2 0),
      (0b0000000011100010#16, Instr.encode7N2 0),
      (0b0000000100000010#16, Instr.encode8N2 0)],
    (decode tpA (.lineOpt e.1)).toOption = some e.2 := by decide

theorem test_decode_parity_even : ∀ e ∈ [(0b0000000010100100#16, Instr.encode5E1 0),
      (0b0000000011000100#16, Instr.encode6E1 0),
      (0b0000000011100100#16, Instr.encode7E1 0),
      (0b0000000100000100#16, Instr.encode8E1 0),
      (0b0000000010100110#16, Instr.encode5E2 0),
      (0b0000000011000110#16, Instr.encode6E2 0),
      (0b0000000011100110#16, Instr.encode7E2 0),
      (0b0000000100000110#16, Instr.encode8E2 0)],
    (decode tpA (.lineOpt e.1)).toOption = some e.2 := by decide

theorem test_decode_parity_odd : ∀ e ∈ [(0b0000000010101000#16, Instr.encode5O1 0),
      (0b0000000011001000#16, Instr.encode6O1 0),
      (0b0000000011101000#16, Instr.encode7O1 0),
      (0b0000000100001000#16, Instr.encode8O1 0),
      (0b0000000010101010#16, Instr.encode5O2 0),
      (0b0000000011001010#16, Instr.encode6O2 0),
      (0b0000000011101010#16, Instr.encode7O2 0),
      (0b0000000100001010#16, Instr.encode8O2 0)],
    (decode tpA (.lineOpt e.1)).toOption = some e.2 := by decide

theorem test_decode_parity_mark : ∀ e ∈ [(0b0000000010101100#16, Instr.encode5M1 0),
      (0b0000000011001100#16, Instr.encode6M1 0),
      (0b0000000011101100#16, Instr.encode7M1 0),
      (0b0000000100001100#16, Instr.encode8M1 0),
      (0b0000000010101110#16, Instr.encode5M2 0),
      (0b0000000011001110#16, Instr.encode6M2 0),
      (0b0000000011101110#16, Instr.encode7M2 0),
      (0b0000000100001110#16, Instr.encode8M2 0)],
    (decode tpA (.lineOpt e.1)).toOption = some e.2 := by decide

theorem test_decode_parity_space : ∀ e ∈ [(0b0000000010110000#16, Instr.encode5S1 0),
      (0b0000000011010000#16, Instr.encode6S1 0),
      (0b0000000011110000#16, Instr.encode7S1 0),
      (0b0000000100010000#16, Instr.encode8S1 0),
      (0b0000000010110010#16, Instr.encode5S2 0),
      (0b0000000011010010#16, Instr.encode6S2 0),
      (0b0000000011110010#16, Instr.encode7S2 0),
      (0b0000000100010010#16, Instr.encode8S2 0)],
    (decode tpA (.lineOpt e.1)).toOption = some e.2 := by decide

theorem test_decode_keeps_ignored_bits :
    (decode tpA (.lineOpt 0b1111111011000110)).toOption = some (.encode6E2 0b1111111) := by decide

theorem test_decode_default :
    (decode tpA (.lineOpt 0b0000000100000011)).toOption = some (.encodeDefault 0b0000000100000011) := by decide

theorem test_decode_portId : ∀ e ∈ [(0b00000001#8, Instr.lookupPinsHw1), (0b00000010, .lookupPinsHw2),
      (0b00000011, .lookupPinsHw3), (0b00001001, .lookupPinsSentinel 9), (0b00010001, .lookupPinsSentinel 0x11)],
    (decode tpA (.portId e.1)).toOption = some e.2 := by decide

theorem test_decode_pin : ∀ e ∈ [((19 : Pin), Instr.roleOfRx1 19), (18, .roleOfTx1 18), (17, .roleOfRx2 17),
      (16, .roleOfTx2 16), (15, .roleOfRx3 15), (14, .roleOfTx3 14), (0, .roleOfNone 0)],
    (decode tpA (.pin e.1)).toOption = some e.2 := by decide

theorem test_decode_cmd : ∀ e ∈ [(0b00010010#8, Instr.cmdConfigure 2), (0b00101111, .cmdWrite 15),
      (0b00110001, .cmdReadRequest 1), (0b01000000, .cmdReply 0), (0b01011000, .cmdClose 8),
      (0b01100111, .cmdFlush 7), (0b01110011, .cmdListenSubscribe 3)],
    (decode tpA (.cmd e.1)).toOption = some e.2 := by decide

theorem test_decode_cmd_sub_mode :
    (decode tpA (.cmdSubMode 0b00000000)).toOption = some .cmdReadRequestModeContinuous ∧
      (decode tpA (.cmdSubMode 0b00000001)).toOption = some .cmdReadRequestModeStop ∧
      (decode tpA (.cmdSubMode 0b00000010)).toOption = none ∧
      (decode tpA (.cmd 0b10000001)).toOption = none ∧ (decode tpA (.cmd 0b00000001)).toOption = none := by decide

theorem test_table_words :
    decodeTableWord 16 0x00C6 = some (.encode6E2 0) ∧ decodeTableWord 8 0x02 = some .lookupPinsHw2 ∧
      decodeTableWord 8 0x30 = some (.cmdReadRequest 0) ∧
      decodeTableWord 8 0x00 = some .cmdReadRequestModeContinuous ∧
      decodeTableWord 8 0x80 = some (.lookupPinsSentinel 0x80) := by decide

/-! ### 95_test_vectors.md 2.1, LOOKUP_PINS -/

/-- R8: the units on a board of wider pins and tokens. -/
theorem test_wide_board :
    result tpWide (.portId 0x01) = some (.pins ⟨300, 18⟩) ∧ result tpWide (.pin 300) = some (.role 0x02) ∧
      result tpWide (.lineOpt 0x0100) = some (.cfg 0x8006) := by decide

/-- R33: PROLE's input has `PIN_W` bits. -/
theorem test_pin_beyond_width :
    (decode tpA (.pin 256)).toOption = none ∧ (decode tpA (.pin 255)).toOption = some (.roleOfNone 255) ∧
      (decode tpWide (.pin 512)).toOption = none := by decide

theorem test_lookup_tpA : ([(0x00#8, (0 : Pin), (0 : Pin)), (0x01, 19, 18), (0x02, 17, 16), (0x03, 15, 14),
      (0x04, 0, 0), (0x07, 0, 0), (0x08, 0, 0), (0x09, 0, 0), (0x0F, 0, 0), (0x10, 0, 0), (0x11, 0, 0),
      (0x31, 0, 0), (0x81, 0, 0), (0xFF, 0, 0)].all fun e =>
    result tpA (.portId e.1) == some (.pins ⟨e.2.1, e.2.2⟩)) = true := by decide

theorem test_lookup_tpB : ([(0x01#8, (0 : Pin), (1 : Pin)), (0x02, 0, 0), (0x03, 0, 0), (0x11, 0, 0)].all fun e =>
    result tpB (.portId e.1) == some (.pins ⟨e.2.1, e.2.2⟩)) = true := by decide

theorem test_lookup_tpC : ([(0x01#8, (10 : Pin), (11 : Pin)), (0x02, 11, 12), (0x03, 0, 0)].all fun e =>
    result tpC (.portId e.1) == some (.pins ⟨e.2.1, e.2.2⟩)) = true := by decide

/-- P4 step 2 and P2 step 1. -/
theorem test_lookup_pseudo :
    result tpA (asmLookupPinsCmd 0x11) = some (.pins ⟨19, 18⟩) ∧
      result tpA (asmLookupPinsSw 2) = some (.pins ⟨0, 0⟩) ∧ asmLookupPinsSw 2 = .portId 0x0A ∧
      result tpA (asmLookupPinsHw 0) = some (.pins ⟨0, 0⟩) := by decide

/-! ### 95_test_vectors.md 2.2, ROLE_OF -/

theorem test_role_tpA : ([((0 : Pin), (0x00 : Role)), (13, 0), (14, 0x07), (15, 0x06), (16, 0x05), (17, 0x04),
      (18, 0x03), (19, 0x02), (20, 0), (255, 0)].all fun e =>
    result tpA (.pin e.1) == some (.role e.2)) = true := by decide

theorem test_role_tpB : ([((0 : Pin), (0x02 : Role)), (1, 0x03), (10, 0), (255, 0)].all fun e =>
    result tpB (.pin e.1) == some (.role e.2)) = true := by decide

theorem test_role_tpC : ([((10 : Pin), (0x02 : Role)), (11, 0x03), (12, 0x05), (0, 0)].all fun e =>
    result tpC (.pin e.1) == some (.role e.2)) = true := by decide

/-! ### 95_test_vectors.md 2.3, ENCODE -/

/-- The AVR column. -/
theorem test_encode_tpA : ([(0x0100#16, (0x06 : Cfg)), (0x00A0, 0x00), (0x0102, 0x0E), (0x00E4, 0x24),
      (0x00C6, 0x2A), (0x0106, 0x2E), (0x00A2, 0x08), (0x0101, 0x06), (0x00E5, 0x06), (0x0103, 0x06),
      (0x010C, 0x06), (0x0110, 0x06), (0x010E, 0x06), (0x00AC, 0x06), (0x0114, 0x06), (0x011C, 0x06),
      (0x0080, 0x06), (0x0120, 0x06), (0x01E0, 0x06), (0x0000, 0x06), (0xFFFF, 0x06), (0xFF00, 0x06),
      (0xFEC6, 0x2A)].all fun e =>
    result tpA (.lineOpt e.1) == some (.cfg e.2)) = true := by decide

/-- The TP_B column: T_8M1 = 28, T_8S1 = 36, T_8M2 = 32, T_5M1 = 25, T_5N2 = 5, T_8N1 = 4 in this fixture. -/
theorem test_encode_tpB : ([(0x0100#16, (4 : Cfg)), (0x010C, 28), (0x0110, 36), (0x010E, 32), (0x00AC, 25),
      (0x00A2, 5), (0x0114, 4), (0x011C, 4), (0x0101, 4)].all fun e =>
    result tpB (.lineOpt e.1) == some (.cfg e.2)) = true := by decide

/-- The TP_C column. -/
theorem test_encode_tpC : ([(0x00A2#16, (4 : Cfg)), (0x010C, 28), (0x0110, 36), (0x010E, 4), (0x00AC, 4),
      (0x0102, 8)].all fun e =>
    result tpC (.lineOpt e.1) == some (.cfg e.2)) = true := by decide

theorem test_encode_pseudo : asmEncode .six .even .two = .lineOpt 0x00C6 ∧
    asmEncode .eight .mark .one = .lineOpt 0x010C ∧ asmEncode .seven .even .one = .lineOpt 0x00E4 := by decide

/-- R84: a command byte is on no input of the block. -/
theorem test_cmd_changes_nothing :
    ∃ t, step (withProgram tpA [.cmd 0x12]) = .next t ∧ t = State.powerUp tpA := ⟨_, rfl, rfl⟩

/-- S9: port 2 not compiled in. -/
theorem test_absent_port_signals_unavailable : (result tpB (.portId 0x02)).map signalsUnknown = some true := by decide

/-! ### Witnesses: concrete states and operands that meet each statement's hypotheses together -/

/-- TP_A with one operation. -/
def sA (w : InputWord) : State := withProgram tpA [w]

theorem witness_IllFormedProfileIsRefused :
    ∃ (P : Profile) (s : State), P.failedCheck = some .pair ∧ s.profile = P :=
  ⟨{ tpB with ports := tpB.ports.set 1 ⟨true, 0, 0⟩ }, State.powerUp _, by decide, rfl⟩

theorem witness_WidthsMayBeRaised :
    tpA.failedCheck = none ∧ tpA.pinW ≤ 9 ∧ tpA.cfgW ≤ 8 ∧
      { tpWide with pinW := 8 }.failedCheck = some .pinWidth ∧
      { tpWide with cfgW := 8 }.failedCheck = some .cfgWidth := by decide

/-- One state for each of the two outcomes. -/
theorem witness_ResultsDoNotDependOnWidths :
    (withProgram tpA [.pin 255]).Configured ∧ (atWidths (withProgram tpA [.pin 255]) 9 16).Configured ∧
      (withProgram tpA [.pin 255]).requests = .pin 255 :: [] ∧ (255 : Pin) < 2 ^ tpA.pinW ∧ (255 : Pin) < 2 ^ 9 ∧
      (withProgram tpA [.cmd 0x80]).Configured ∧ (atWidths (withProgram tpA [.cmd 0x80]) 9 16).Configured := by decide

theorem witness_RoleCodesDefaultAndDistinct : tpA.roleCodes = {} ∧ tpA.failedCheck = none := by decide

theorem witness_PowerUpOutputsAreSettled : tpA.failedCheck = none ∧ tpB.failedCheck = none := by decide

theorem witness_StepKeepsOutputsSettled :
    (sA (.lineOpt 0x00C6)).Settled ∧ (sA (.portId 1)).Settled ∧ (sA (.pin 19)).Settled ∧
      (∃ t, step (sA (.lineOpt 0x00C6)) = .next t) ∧ (∃ t, step (sA (.portId 1)) = .next t) ∧
      ∃ t, step (sA (.pin 19)) = .next t :=
  ⟨by decide, by decide, by decide, ⟨_, rfl⟩, ⟨_, rfl⟩, ⟨_, rfl⟩⟩

/-- The largest pin and, on the wide board, values of more than 8 bits. -/
theorem witness_StepKeepsPortsWithinWidths :
    (withProgram tpA [.pin 255]).WithinWidths ∧ (∃ t, step (withProgram tpA [.pin 255]) = .next t) ∧
      (withProgram tpWide [.portId 1]).WithinWidths ∧ (∃ t, step (withProgram tpWide [.portId 1]) = .next t) ∧
      (withProgram tpWide [.lineOpt 0x0100]).WithinWidths ∧
      ∃ t, step (withProgram tpWide [.lineOpt 0x0100]) = .next t :=
  ⟨by decide, ⟨_, rfl⟩, by decide, ⟨_, rfl⟩, by decide, ⟨_, rfl⟩⟩

theorem witness_StepSamplesOnlyProducedOutputs :
    ∃ s t : State, s.samples = [.role 0x02] ∧ (∀ o ∈ s.samples, outputProduced s.profile o) ∧
      step s = .next t :=
  ⟨{ sA (.portId 1) with samples := [.role 0x02] }, _, rfl,
    fun o ho => by rw [List.mem_singleton.1 ho]; exact ⟨19, by decide, by decide⟩, rfl⟩

theorem witness_ProfileIsImmutable :
    (∃ t, exec .lookupPinsHw1 (sA (.pin 19)) = .next t) ∧ (∃ t, step (sA (.pin 19)) = .next t) ∧
      ∃ t, core.run 2 (sA (.pin 19)) = .next t := ⟨⟨_, rfl⟩, ⟨_, rfl⟩, ⟨_, rfl⟩⟩

theorem witness_StepRunsDecodedInstruction :
    (sA (.cmd 0x12)).Configured ∧ (sA (.cmd 0x12)).requests = .cmd 0x12 :: [] ∧
      decode tpA (.cmd 0x12) = .ok (.cmdConfigure 2) ∧
      (sA (.pin 19)).Configured ∧ (sA (.pin 19)).requests = .pin 19 :: [] ∧
      decode tpA (.pin 19) = .ok (.roleOfRx1 19) :=
  ⟨by decide, rfl, rfl, by decide, rfl, rfl⟩

theorem witness_StepWithoutRequestHoldsState : State.reset.Configured ∧ State.reset.requests = [] := by decide

theorem witness_EveryOperationListRunsToItsOutputs :
    (withProgram tpA [.portId 2, .pin 17, .lineOpt 0x00E4]).Configured ∧
      ∀ w ∈ [InputWord.portId 2, .pin 17, .lineOpt 0x00E4], (expectedOutput tpA w).isSome := by decide

theorem witness_EveryInputValueHasAnOutput :
    State.reset.Configured ∧ (∀ p : PortIdx, tpA.present p = true → (0xFF : PortId).toNat ≠ p.val) ∧
      (255 : Pin) < 2 ^ tpA.pinW ∧
      ∀ p : PortIdx, tpA.present p = true → (255 : Pin) ≠ tpA.rx p ∧ (255 : Pin) ≠ tpA.tx p := by decide

theorem witness_DecodeEncodeRoundTrip :
    ∀ i ∈ [Instr.encode5N1 0, .encode8S2 0x7F, .encodeDefault 0xFFFF, .lookupPinsHw3, .lookupPinsSentinel 0xFF,
        .roleOfRx1 19, .roleOfTx3 14, .roleOfNone 255, .cmdListenSubscribe 0xF, .cmdReadRequestModeStop],
      i.wf = true ∧ i.selectedBy tpA = true := by decide

theorem witness_EncodeDecodeRoundTrip :
    decode tpA (.lineOpt 0) = .ok (.encodeDefault 0) ∧ decode tpA (.pin 14) = .ok (.roleOfTx3 14) ∧
      decode tpA (.cmd 0x7F) = .ok (.cmdListenSubscribe 0xF) := ⟨rfl, rfl, rfl⟩

theorem witness_UnlistedCommandWordsAreRejected :
    (sA (.cmd 0x80)).Configured ∧ (sA (.cmd 0x80)).requests = .cmd 0x80 :: [] ∧
      decode tpA (.cmd 0x80) = .error (.unlistedOpcode 0x80) ∧
      decode tpA (.cmd 0x0F) = .error (.unlistedOpcode 0x0F) ∧
      decode tpA (.cmdSubMode 2) = .error (.unlistedSubMode 2) ∧
      decode tpA (.pin 256) = .error (.pinBeyondWidth 256) := ⟨by decide, rfl, rfl, rfl, rfl, rfl⟩

theorem witness_AssembledWordHasItsFields :
    (0xFFFF : LineOptions).toNat = (0x7F#7).toNat * 512 + (15#4).toNat * 32 + (7#3).toNat * 4 + (3#2).toNat ∧
      (0x0112 : LineOptions).toNat = (0#7).toNat * 512 + (8#4).toNat * 32 + (4#3).toNat * 4 + (2#2).toNat := by
  decide

theorem witness_EncodeRowsRefinePseudocode :
    encode (.encode8M1 0) = .lineOpt 0x010C ∧ encode (.encodeDefault 0x0101) = .lineOpt 0x0101 ∧
      (State.powerUp tpB).Configured := by decide

theorem witness_DecisionTableGivesTheToken :
    (State.powerUp tpC).Configured ∧ (0x00A2, Parity.noParity, StopBits.two, DataBits.five) ∈ lineOptTable ∧
      (0xFEA2 : LineOptions) &&& 0x01FF = 0x00A2 ∧ ∀ e ∈ lineOptTable, (0x0101 : LineOptions) &&& 0x01FF ≠ e.1 := by
  decide

theorem witness_UnsupportedOptionsGiveTheDefault :
    (State.powerUp tpC).Configured ∧ tpC.token .noParity .one .eight = some 4 ∧
      tripleOf 0x00A2 = some (.noParity, .two, .five) ∧ tpC.token .noParity .two .five = none ∧
      tpC.parityOk (parityField 0x0114) = false ∧ stopOk (stopField 0x0101) = false ∧
      dataOk (dataField 0x0120) = false := by decide

theorem witness_ExtendedParityNeedsTheCapability :
    (State.powerUp tpA).Configured ∧ parityField 0x010C = 3 ∧ tpA.extParity = false ∧
      (State.powerUp tpB).Configured ∧ parityField 0x0110 = 4 ∧ tpB.extParity = true ∧
      tripleOf 0x0110 = some (.space, .one, .eight) ∧ tpB.token .space .one .eight = some 36 := by decide

theorem witness_OnePointFiveStopBitsGiveTheDefault : (State.powerUp tpC).Configured := by decide

theorem witness_EncodeIsTotalOnRecognisedTokens : (State.powerUp tpB).Configured := by decide

/-- The fallbacks of R142, one of each kind, and two words that are none. -/
theorem witness_DefaultRequestLooksLikeFallback :
    ownToken tpA 0x0101 = false ∧ ownToken tpA 0x010C = false ∧ tripleOf 0x010C = some (.mark, .one, .eight) ∧
      ownToken tpC 0x00A2 = false ∧ tripleOf 0x00A2 = some (.noParity, .two, .five) ∧
      ownToken tpB 0x010C = true ∧ ownToken tpA 0x00C6 = true ∧ tpA.failedCheck = none := by decide

theorem witness_RecognisedSetSize :
    (∀ p s d, tpA.recognises p = true → (tpA.token p s d).isSome) ∧
      ∀ p s d, tpB.recognises p = true → (tpB.token p s d).isSome := by
  constructor <;> intro p s d <;> cases p <;> cases s <;> cases d <;> decide

theorem witness_RecognisedSetSize_tokens :
    ownToken tpA 0x0101 = false ∧ ownToken tpB 0x010C = true ∧ tripleOf 0x010C = some (.mark, .one, .eight) := by decide

theorem witness_LookupRowsRefinePseudocode :
    encode .lookupPinsHw1 = .portId 0x01 ∧ encode (.lookupPinsSentinel 0x04) = .portId 0x04 ∧
      State.reset.Configured := by decide

/-- One state for each side of the equivalence: port 1 present, port 2 absent. -/
theorem witness_SentinelExactlyForAbsentPorts :
    (State.powerUp tpB).Configured ∧ tpB.present 1 = true ∧ tpB.present 2 = false := by decide

theorem witness_OtherIdentifiersGetTheSentinel :
    State.reset.Configured ∧ (0x04 : PortId) ≠ 0x01 ∧
      (0x04 : PortId) ≠ 0x02 ∧ (0x04 : PortId) ≠ 0x03 := by decide

theorem witness_CommandByteNeedsTheMask : encode (.cmdConfigure 1) = .cmd 0x11 := by decide

theorem witness_PairComesFromOnePort :
    encode .lookupPinsHw2 = .portId 0x02 ∧ ∃ t, exec .lookupPinsHw2 State.reset = .next t := ⟨rfl, ⟨_, rfl⟩⟩

theorem witness_RoleRowsRefinePseudocode :
    encode (.roleOfRx2 11) = .pin 11 ∧ encode (.roleOfNone 0) = .pin 0 ∧ (State.powerUp tpC).Configured := by decide

theorem witness_EarliestRoleWins :
    (State.powerUp tpC).Configured ∧
      [(SerialPort.one, Dir.rx), (.one, .tx), (.two, .rx), (.two, .tx), (.three, .rx), (.three, .tx)] =
        [(SerialPort.one, Dir.rx)] ++ (SerialPort.one, Dir.tx) ::
          [(.two, .rx), (.two, .tx), (.three, .rx), (.three, .tx)] ∧
      (∀ e ∈ [(SerialPort.one, Dir.rx)], ¬ isPresentRole tpC 11 e.1 e.2) ∧ isPresentRole tpC 11 .one .tx :=
  ⟨by decide, rfl, by unfold isPresentRole; decide, by unfold isPresentRole; decide⟩

theorem witness_AbsentPortsPinsAreNeverRead :
    let Q := { tpB with ports := tpB.ports.set 2 ⟨false, 7, 8⟩ }
    tpB.roleCodes = Q.roleCodes ∧ (∀ i : PortIdx, tpB.present i = Q.present i) ∧
      (∀ i : PortIdx, tpB.present i = true → tpB.rx i = Q.rx i ∧ tpB.tx i = Q.tx i) ∧ tpB ≠ Q ∧
      ∀ p ∈ SerialPort.all, tpB.present p.idx = true → (7 : Pin) ≠ tpB.rx p.idx ∧ (7 : Pin) ≠ tpB.tx p.idx := by
  decide

theorem witness_RoleOfIsLeftInverseOfLookup :
    tpA.failedCheck = none ∧ tpA.NoAlias ∧ tpA.present SerialPort.three.idx = true ∧
      tpC.failedCheck = none ∧ ¬ tpC.NoAlias ∧ tpC.present SerialPort.one.idx = true ∧
      isPresentRole tpC (tpC.pinOf .two .rx) .one .tx :=
  ⟨by decide, by decide, by decide, by decide, by decide, by decide, by unfold isPresentRole; decide⟩

theorem witness_RoleOutputIsZeroOrARoleCode :
    (State.powerUp tpA).Configured ∧ (255 : Pin) < 2 ^ tpA.pinW := by decide

theorem witness_CommandsLeaveTheBlockUnchanged :
    State.reset.Configured ∧ encode (.cmdWrite 3) = .cmd 0x23 ∧
      encode .cmdReadRequestModeContinuous = .cmdSubMode 0 := by decide

theorem witness_LookupFrame :
    encode (.lookupPinsSentinel 0) = .portId 0 ∧ ∃ t, exec (.lookupPinsSentinel 0) State.reset = .next t :=
  ⟨rfl, ⟨_, rfl⟩⟩

theorem witness_RoleFrame : encode (.roleOfTx2 16) = .pin 16 ∧ ∃ t, exec (.roleOfTx2 16) State.reset = .next t :=
  ⟨rfl, ⟨_, rfl⟩⟩

theorem witness_EncodeFrame :
    encode (.encode5S2 0) = .lineOpt 0x00B2 ∧ ∃ t, exec (.encode5S2 0) State.reset = .next t := ⟨rfl, ⟨_, rfl⟩⟩

theorem witness_OutputsDependOnInputAndProfileOnly :
    ∃ s s' : State, s ≠ s' ∧ s.profile = s'.profile ∧ s.Configured ∧ s.requests = .pin 19 :: [] ∧
      s'.requests = .pin 19 :: [.portId 1] :=
  ⟨sA (.pin 19), { withProgram tpA [.pin 19, .portId 1] with cfg := 9 }, by decide, rfl, by decide, rfl, rfl⟩

theorem witness_OperationsCommute :
    State.reset.Configured ∧ sameUnit (encode (.encode5N1 0)) (encode .lookupPinsHw1) = false := by decide

end Sys2Proof.Tests
end

/-! What an operation does, said once for all 61 rows: it applies the word that carries it, and the word's unit drives
what its pseudocode gives. -/

namespace Sys2Proof.Machine

/-- The word applied to the input that carries it, with that unit's output settled and sampled (R194). A command word is
on no input of the block (R84). -/
def State.driveWord (s : State) : InputWord → State
  | .lineOpt o => s.driveLce o (s.profile.encode o)
  | .portId id => s.drivePtab id (s.profile.lookupPins id)
  | .pin pin => s.driveProle pin (s.profile.roleOf pin)
  | .cmd _ => s
  | .cmdSubMode _ => s

@[simp] theorem State.driveWord_profile (s : State) (w : InputWord) : (s.driveWord w).profile = s.profile := by
  cases w <;> rfl

theorem exec_ofTriple (p : Parity) (st : StopBits) (d : DataBits) (x : BitVec 7) (s : State) :
    exec (Instr.ofTriple p st d x) s = encodeRow p st d x s := by
  cases p <;> cases st <;> cases d <;> rfl

/-- Every row of LCE drives what ENCODE gives the row's word. -/
theorem exec_of_encode_lineOpt {i : Instr} {o : LineOptions} (s : State) (h : encode i = .lineOpt o) :
    exec i s = s.whenConfigured (s.driveWord (.lineOpt o)) := by
  obtain rfl | ⟨p, st, d, x, rfl, rfl⟩ := encode_lineOpt_cases h
  · exact encodeDefaultRow_eq s o
  · rw [exec_ofTriple]
    exact encodeRow_eq s p st d x

/-- Everything an operation can do: under `WF(P)` its word is driven, otherwise it is refused. -/
theorem exec_eq_whenConfigured (i : Instr) (s : State) :
    exec i s = s.whenConfigured (s.driveWord (encode i)) := by
  cases i
  case lookupPinsHw1 => exact hardwarePortRow_eq s .one
  case lookupPinsHw2 => exact hardwarePortRow_eq s .two
  case lookupPinsHw3 => exact hardwarePortRow_eq s .three
  case lookupPinsSentinel id => exact sentinelRow_eq s id
  case roleOfRx1 pin => exact roleRow_eq s .one .rx pin
  case roleOfTx1 pin => exact roleRow_eq s .one .tx pin
  case roleOfRx2 pin => exact roleRow_eq s .two .rx pin
  case roleOfTx2 pin => exact roleRow_eq s .two .tx pin
  case roleOfRx3 pin => exact roleRow_eq s .three .rx pin
  case roleOfTx3 pin => exact roleRow_eq s .three .tx pin
  case roleOfNone pin => exact noRoleRow_eq s pin
  case cmdConfigure | cmdWrite | cmdReadRequest | cmdReply | cmdClose | cmdFlush | cmdListenSubscribe
      | cmdReadRequestModeContinuous | cmdReadRequestModeStop => rfl
  all_goals exact exec_of_encode_lineOpt s rfl

end Sys2Proof.Machine

/-! What the decoder reads encodes to the word read, so a step drives the very word that is presented. -/

namespace Sys2Proof

/-- A command byte is its two nibbles (R81). -/
theorem opcodeNibble_append_portNibble (c : CommandByte) : opcodeNibble c ++ portNibble c = c := by
  apply BitVec.eq_of_toNat_eq
  have hc := c.isLt
  simp only [opcodeNibble, portNibble, toNat_append_add, BitVec.extractLsb'_toNat, Nat.shiftRight_eq_div_pow]
  omega

theorem encode_decodeLineOpt (o : LineOptions) : encode (decodeLineOpt o) = .lineOpt o := by
  unfold decodeLineOpt
  split
  · rename_i h
    rw [encode_ofTriple, optionsWord_of_tripleOf h]
  · rfl

theorem encode_decodePortId (id : PortId) : encode (decodePortId id) = .portId id := by
  unfold decodePortId
  split_ifs with h1 h2 h3
  · rw [h1]; rfl
  · rw [h2]; rfl
  · rw [h3]; rfl
  · rfl

theorem encode_ofRole (p : SerialPort) (d : Dir) (pin : Pin) : encode (Instr.ofRole p d pin) = .pin pin := by
  cases p <;> cases d <;> rfl

theorem encode_decodePin (P : Profile) (pin : Pin) : encode (decodePin P pin) = .pin pin := by
  unfold decodePin
  split
  · exact encode_ofRole _ _ pin
  · rfl

theorem encode_of_decodeCmd {c : CommandByte} {i : Instr} (h : decodeCmd c = .ok i) : encode i = .cmd c := by
  have row {o : BitVec 4} (ho : opcodeNibble c = o) : InputWord.cmd (o ++ portNibble c) = .cmd c := by
    rw [← ho, opcodeNibble_append_portNibble]
  unfold decodeCmd at h
  split_ifs at h with h1 h2 h3 h4 h5 h6 h7 <;> cases h
  exacts [row h1, row h2, row h3, row h4, row h5, row h6, row h7]

theorem encode_of_decodeCmdSubMode {m : BitVec 8} {i : Instr} (h : decodeCmdSubMode m = .ok i) :
    encode i = .cmdSubMode m := by
  unfold decodeCmdSubMode at h
  split_ifs at h with h0 h1 <;> cases h
  · rw [h0]; rfl
  · rw [h1]; rfl

/-- PROLE's input carries exactly the pins of `PIN_W` bits (R33). -/
theorem decode_pin_eq_ok {P : Profile} {pin : Pin} {i : Instr} :
    decode P (.pin pin) = .ok i ↔ pin < 2 ^ P.pinW ∧ i = decodePin P pin := by
  by_cases hp : pin < 2 ^ P.pinW
  · simp only [decode, Profile.fitsPin_iff, hp, if_true, Except.ok.injEq, true_and, eq_comm (a := i)]
  · simp only [decode, Profile.fitsPin_iff, hp, if_false, reduceCtorEq, false_and]

/-- The instruction read from a word encodes to that word. -/
theorem encode_of_decode {P : Profile} {w : InputWord} {i : Instr} (h : decode P w = .ok i) : encode i = w := by
  cases w with
  | lineOpt o => cases h; exact encode_decodeLineOpt o
  | portId id => cases h; exact encode_decodePortId id
  | pin pin =>
    obtain ⟨-, rfl⟩ := decode_pin_eq_ok.1 h
    exact encode_decodePin P pin
  | cmd c => exact encode_of_decodeCmd h
  | cmdSubMode m => exact encode_of_decodeCmdSubMode h

namespace Machine

variable {s : State} {w : InputWord} {rest : List InputWord}

/-- A step on a word that decodes drives that word. -/
theorem step_of_decode_ok {i : Instr} (hc : s.Configured) (hr : s.requests = w :: rest)
    (hd : decode s.profile w = .ok i) : step s = .next ({ s with requests := rest }.driveWord w) := by
  have he : step s = exec i { s with requests := rest } := by
    simp only [step, show s.profile.failedCheck = none from hc, State.fetch_cons s w rest hr, hd]
  rw [he, exec_eq_whenConfigured, encode_of_decode hd]
  exact State.whenConfigured_of_configured hc

/-- A step on a word that does not decode is refused by the decoder's name. -/
theorem step_of_decode_error {e : DecodeError} (hc : s.Configured) (hr : s.requests = w :: rest)
    (hd : decode s.profile w = .error e) : step s = .refused (.undecodable e) := by
  simp only [step, show s.profile.failedCheck = none from hc, State.fetch_cons s w rest hr, hd]

/-- A step that answers a next state idles or drives the next word, which decodes. -/
theorem step_eq_next_driveWord {t : State} (h : step s = .next t) :
    s.Configured ∧ ((s.requests = [] ∧ t = s) ∨
      ∃ w rest i, s.requests = w :: rest ∧ decode s.profile w = .ok i ∧
        t = { s with requests := rest }.driveWord w) := by
  obtain ⟨hc, idle | ⟨w, rest, i, hr, hd, -⟩⟩ := step_eq_next_cases h
  · exact ⟨hc, .inl idle⟩
  · rw [step_of_decode_ok hc hr hd] at h
    exact ⟨hc, .inr ⟨w, rest, i, hr, hd, (Host.Outcome.next.inj h).symm⟩⟩

end Machine

end Sys2Proof

/-! The widths of the ports as an invariant of the step (00_scope.md R8). -/

namespace Sys2Proof.Machine

/-- Driving a word that decodes keeps the widths: the unit's output has its width under `WF(P)`, and a pin that decodes
has `PIN_W` bits. -/
theorem State.withinWidths_driveWord {s : State} {w : InputWord} {i : Instr} (hc : s.Configured)
    (hs : s.WithinWidths) (hd : decode s.profile w = .ok i) : (s.driveWord w).WithinWidths := by
  obtain ⟨hpin, hrx, htx, hcfg⟩ := hs
  cases w with
  | lineOpt o => exact ⟨hpin, hrx, htx, Profile.encode_fits hc o⟩
  | portId id =>
    obtain ⟨hrx', htx'⟩ := Profile.lookupPins_fits hc id
    exact ⟨hpin, hrx', htx', hcfg⟩
  | pin pin => exact ⟨(decode_pin_eq_ok.1 hd).1, hrx, htx, hcfg⟩
  | cmd | cmdSubMode => exact ⟨hpin, hrx, htx, hcfg⟩

/-- Settles O43: an idle step keeps the state, and any other step drives a word that decodes. -/
theorem stepKeepsPortsWithinWidths : Obligations.StepKeepsPortsWithinWidths := by
  intro s t hs h
  obtain ⟨hc, ⟨-, rfl⟩ | ⟨w, rest, i, -, hd, rfl⟩⟩ := step_eq_next_driveWord h
  · exact hs
  · exact State.withinWidths_driveWord (s := { s with requests := rest }) hc hs hd

end Sys2Proof.Machine

/-! Which widths a profile passes at (00_scope.md R8, D3, D10): those that hold its present pins and readable tokens,
when the checks of R30, which read no width, pass. -/

namespace Sys2Proof

/-- The five named checks of R30, without the two widths. -/
def WfCheck.ofR30 : List WfCheck := [.port0, .high, .pair, .defaultToken, .role]

/-- The profile passes the five named checks of R30. -/
def Profile.PassesR30 (P : Profile) : Prop := ∀ c ∈ WfCheck.ofR30, P.passes c = true

/-- The pins of the present ports have `w` bits. -/
def Profile.PinsFit (P : Profile) (w : Nat) : Prop :=
  ∀ p : PortIdx, P.present p = true → P.rx p < 2 ^ w ∧ P.tx p < 2 ^ w

/-- The tokens that LCE can read have `w` bits. -/
def Profile.TokensFit (P : Profile) (w : Nat) : Prop :=
  ∀ p s d token, P.recognises p = true → P.token p s d = some token → token < 2 ^ w

section PassingWidths

variable {P : Profile}

/-- The widths are checked after R30's five checks (log entry 12). -/
theorem Profile.failedCheck_eq_or (P : Profile) :
    P.failedCheck = (WfCheck.ofR30.find? fun c => !P.passes c).or
      ([WfCheck.pinWidth, .cfgWidth].find? fun c => !P.passes c) := by
  rw [← List.find?_append]
  rfl

/-- No check of R30 reads a width. -/
theorem Profile.passesR30_atWidths {pinW cfgW : Nat} : { P with pinW, cfgW }.PassesR30 ↔ P.PassesR30 := by
  refine forall₂_congr fun c hc => ?_
  cases c with
  | port0 | high | pair | defaultToken | role => exact Iff.rfl
  | pinWidth | cfgWidth => simp [WfCheck.ofR30] at hc

theorem Profile.passes_pinWidth_iff : P.passes .pinWidth = true ↔ P.PinsFit P.pinW := by
  simp only [Profile.passes, decide_eq_true_eq, Profile.fitsPin_iff, Profile.PinsFit]

theorem Profile.token_mem_readableTokens {p : Parity} (hp : P.recognises p = true) (s : StopBits) (d : DataBits) :
    P.token p s d ∈ P.readableTokens := by
  have hall : p ∈ Parity.all := by cases p <;> decide
  refine List.mem_flatMap.2 ⟨p, List.mem_filter.2 ⟨hall, hp⟩, ?_⟩
  cases s <;> cases d <;> simp

/-- A profile passes when it passes R30's checks and its widths hold its pins and tokens. -/
theorem Profile.failedCheck_eq_none_iff :
    P.failedCheck = none ↔ P.PassesR30 ∧ P.PinsFit P.pinW ∧ P.TokensFit P.cfgW := by
  rw [Profile.failedCheck_eq_or, Option.or_eq_none_iff, ← Profile.passes_pinWidth_iff,
    Profile.TokensFit, ← Profile.passes_cfgWidth_iff]
  simp [Profile.PassesR30]

/-- A profile passes at exactly the widths that hold its pins and tokens, if it passes R30's checks. -/
theorem Profile.failedCheck_atWidths_iff {pinW cfgW : Nat} :
    { P with pinW, cfgW }.failedCheck = none ↔ P.PassesR30 ∧ P.PinsFit pinW ∧ P.TokensFit cfgW := by
  rw [Profile.failedCheck_eq_none_iff, Profile.passesR30_atWidths]
  exact Iff.rfl

/-- A profile that is refused for a width passes R30's checks. -/
theorem Profile.passesR30_of_failedCheck_width
    (h : P.failedCheck = some .pinWidth ∨ P.failedCheck = some .cfgWidth) : P.PassesR30 := by
  rw [Profile.failedCheck_eq_or] at h
  cases hR30 : WfCheck.ofR30.find? fun c => !P.passes c with
  | none => simpa [Profile.PassesR30] using hR30
  | some c =>
    have hmem : c ∈ WfCheck.ofR30 := List.mem_of_find?_eq_some hR30
    rw [hR30, Option.some_or] at h
    obtain h | h := h <;> cases h <;> simp [WfCheck.ofR30] at hmem

theorem Profile.PinsFit.mono {v w : Nat} (h : P.PinsFit v) (hvw : v ≤ w) : P.PinsFit w := fun p hp =>
  have hpow := Nat.pow_le_pow_right Nat.two_pos hvw
  (h p hp).imp (·.trans_le hpow) (·.trans_le hpow)

theorem Profile.TokensFit.mono {v w : Nat} (h : P.TokensFit v) (hvw : v ≤ w) : P.TokensFit w :=
  fun p s d token hp ht => (h p s d token hp ht).trans_le (Nat.pow_le_pow_right Nat.two_pos hvw)

/-- The eight ports' pins have a bound `b`, and `b < 2 ^ b`. -/
theorem Profile.exists_pinsFit (P : Profile) : ∃ w, P.PinsFit w := by
  obtain ⟨b, hb⟩ := Finite.exists_le fun p : PortIdx => max (P.rx p) (P.tx p)
  have hpow : b < 2 ^ b := Nat.lt_two_pow_self
  exact ⟨b, fun p _ => (max_le_iff.1 (hb p)).imp (·.trans_lt hpow) (·.trans_lt hpow)⟩

/-- The finitely many readable tokens have a bound `b`, and `b < 2 ^ b`. -/
theorem Profile.exists_tokensFit (P : Profile) : ∃ w, P.TokensFit w := by
  obtain ⟨b, hb⟩ := P.readableTokens.reduceOption.toFinset.exists_le
  refine ⟨b, fun p s d token hp ht => (hb token ?_).trans_lt Nat.lt_two_pow_self⟩
  rw [List.mem_toFinset, List.reduceOption_mem_iff, ← ht]
  exact Profile.token_mem_readableTokens hp s d

end PassingWidths

/-- Settles O44: fitting is monotone in the width, and finitely many pins and tokens fit some width. -/
theorem widthsMayBeRaised : Obligations.WidthsMayBeRaised := by
  refine fun P => ⟨fun pinW cfgW h hp hc => ?_, fun h => ?_⟩
  · obtain ⟨hR30, hpins, htokens⟩ := Profile.failedCheck_eq_none_iff.1 h
    exact Profile.failedCheck_atWidths_iff.2 ⟨hR30, hpins.mono hp, htokens.mono hc⟩
  · obtain ⟨pinW, hpins⟩ := P.exists_pinsFit
    obtain ⟨cfgW, htokens⟩ := P.exists_tokensFit
    exact ⟨pinW, cfgW,
      Profile.failedCheck_atWidths_iff.2 ⟨Profile.passesR30_of_failedCheck_width h, hpins, htokens⟩⟩

end Sys2Proof

/-! Results do not depend on the widths (D3): the units read none, and the decoder reads `PIN_W` only to reject pins. -/

namespace Sys2Proof.Machine

/-- No unit reads a width. -/
theorem driveWord_atWidths (s : State) (pinW cfgW : Nat) (w : InputWord) :
    (atWidths s pinW cfgW).driveWord w = atWidths (s.driveWord w) pinW cfgW := by
  cases w <;> rfl

/-- The decoder reads a word alike at two widths, where a pin fits both. -/
theorem decode_atWidths {s : State} {pinW cfgW : Nat} {w : InputWord}
    (hpin : ∀ pin, w = .pin pin → pin < 2 ^ s.profile.pinW ∧ pin < 2 ^ pinW) :
    decode (atWidths s pinW cfgW).profile w = decode s.profile w := by
  cases w with
  | pin pin =>
    obtain ⟨hs, hw⟩ := hpin pin rfl
    rw [decode_pin_eq_ok.2 ⟨hs, rfl⟩]
    exact decode_pin_eq_ok.2 ⟨hw, rfl⟩
  | lineOpt | portId | cmd | cmdSubMode => rfl

/-- Settles O45: both blocks decode the word alike, and then drive it or refuse it. -/
theorem resultsDoNotDependOnWidths : Obligations.ResultsDoNotDependOnWidths := by
  intro s pinW cfgW w rest hs hw hr hpin
  have hsame : decode (atWidths s pinW cfgW).profile w = decode s.profile w := decode_atWidths hpin
  cases hd : decode s.profile w with
  | ok i =>
    refine .inl ⟨_, step_of_decode_ok hs hr hd, ?_⟩
    rw [step_of_decode_ok hw hr (hsame.trans hd), ← driveWord_atWidths]
    rfl
  | error e =>
    exact .inr ⟨e, step_of_decode_error hs hr hd, step_of_decode_error hw hr (hsame.trans hd)⟩

end Sys2Proof.Machine

/-! Settled outputs as an invariant of power-up and of the step (10_state.md R23, R36, R190). -/

namespace Sys2Proof.Machine

theorem State.configured_driveWord {s : State} {w : InputWord} : (s.driveWord w).Configured ↔ s.Configured := by
  rw [State.Configured, State.driveWord_profile]

/-- Driving a word keeps every output its unit's function of the input applied. -/
theorem State.settled_driveWord {s : State} (h : s.Settled) (w : InputWord) : (s.driveWord w).Settled := by
  cases w with
  | lineOpt o => exact State.settled_driveLce h o rfl
  | portId id => exact State.settled_drivePtab h id rfl
  | pin pin => exact State.settled_driveProle h pin rfl
  | cmd | cmdSubMode => exact h

/-- Settles O5: an idle step keeps the state, and any other step drives a word, which keeps the profile. -/
theorem stepKeepsOutputsSettled : Obligations.StepKeepsOutputsSettled := by
  intro s t hs h
  obtain ⟨hc, ⟨-, rfl⟩ | ⟨w, rest, i, -, -, rfl⟩⟩ := step_eq_next_driveWord h
  · exact ⟨hc, hs⟩
  · exact ⟨State.configured_driveWord.2 hc, State.settled_driveWord (s := { s with requests := rest }) hs w⟩

theorem State.settled_powerUp (P : Profile) : (State.powerUp P).Settled :=
  ⟨rfl, rfl, by rw [State.powerUp_cfg, State.powerUp_profile, State.powerUp_options]⟩

/-- Under `WF(P)` the block powers up with values of the ports' widths: the input 0 has every width. -/
theorem State.withinWidths_powerUp {P : Profile} (h : P.failedCheck = none) : (State.powerUp P).WithinWidths := by
  obtain ⟨hrx, htx⟩ := Profile.lookupPins_fits h 0
  exact ⟨Nat.two_pow_pos P.pinW, hrx, htx, Profile.encode_fits h 0⟩

/-- Settles O3: configuring a well-formed profile powers the block up. -/
theorem powerUpOutputsAreSettled : Obligations.PowerUpOutputsAreSettled := by
  intro P h
  obtain ⟨hpair, hrole, hcfg⟩ := State.settled_powerUp P
  exact ⟨State.powerUp P, configure_eq_next.2 ⟨h, rfl⟩, rfl,
    Prod.ext (congrArg PinPair.rx hpair) (congrArg PinPair.tx hpair), hrole, hcfg, State.withinWidths_powerUp h⟩

end Sys2Proof.Machine

/-! What `WF(P)` says (10_state.md R29, R30), and that a profile that fails a check has no behaviour. -/

namespace Sys2Proof

section WellFormedProfiles

variable {P : Profile}

theorem Profile.pins_eq_sentinel_iff {p : PortIdx} :
    P.pins p = PinPair.sentinel ↔ (P.rx p, P.tx p) = (0, 0) := by
  simp only [Profile.pins, PinPair.sentinel, PinPair.mk.injEq, Prod.mk.injEq]

/-- `WF_ROLE`: with 0 in front, distinct codes are nonzero codes. -/
theorem Profile.passes_role_iff :
    P.passes .role = true ↔ (∀ c ∈ P.roleCodeList, c ≠ 0) ∧ P.roleCodeList.Nodup := by
  simp only [Profile.passes, decide_eq_true_eq, List.nodup_cons, List.forall_mem_ne']

/-- The five checks of R30 in its own words. -/
theorem Profile.passesR30_iff :
    P.PassesR30 ↔
      P.present 0 = false ∧ (∀ p : PortIdx, 4 ≤ p → P.present p = false) ∧
        (∀ p : PortIdx, P.present p = true → (P.rx p, P.tx p) ≠ (0, 0)) ∧
        P.token .noParity .one .eight ≠ none ∧ (∀ c ∈ P.roleCodeList, c ≠ 0) ∧ P.roleCodeList.Nodup := by
  rw [← Profile.passes_role_iff]
  simp only [Profile.PassesR30, WfCheck.ofR30, List.forall_mem_cons, List.not_mem_nil, false_implies, implies_true,
    and_true, ← Option.isSome_iff_ne_none, ne_eq, ← Profile.pins_eq_sentinel_iff]
  simp only [Profile.passes, beq_iff_eq, decide_eq_true_eq, ne_eq]

/-- The list of codes follows the priority order of the roles (R121). -/
theorem Profile.roleCodeList_eq_map (P : Profile) :
    P.roleCodeList = rolePriority.map fun role => P.roleCode role.1 role.2 := rfl

theorem mem_rolePriority (p : SerialPort) (d : Dir) : (p, d) ∈ rolePriority := by
  cases p <;> cases d <;> decide

/-- R29's defaults are 2p and 2p + 1. -/
theorem Profile.roleCode_default (h : P.roleCodes = {}) (p : SerialPort) :
    (P.roleCode p .rx).toNat = 2 * p.idx.val ∧ (P.roleCode p .tx).toNat = 2 * p.idx.val + 1 := by
  cases p <;> simp only [Profile.roleCode, h] <;> decide

end WellFormedProfiles

/-- Settles O2: `WF_ROLE` speaks of the codes of all six roles. -/
theorem roleCodesDefaultAndDistinct : Obligations.RoleCodesDefaultAndDistinct := by
  refine ⟨fun P h => Profile.roleCode_default h, fun P h p q d e => ?_⟩
  obtain ⟨hnonzero, hdistinct⟩ := Profile.passes_role_iff.1 (Profile.passes_of_failedCheck_none h .role)
  rw [Profile.roleCodeList_eq_map] at hnonzero hdistinct
  refine ⟨hnonzero _ (List.mem_map_of_mem (mem_rolePriority p d)), fun heq => ?_⟩
  exact Prod.mk.inj (List.inj_on_of_nodup_map hdistinct (mem_rolePriority p d) (mem_rolePriority q e) heq)

namespace Machine

/-- A step on an ill-formed profile is refused before anything else (R30). -/
theorem step_of_failed {s : State} {c : WfCheck} (h : s.profile.failedCheck = some c) :
    step s = .refused (.illFormedProfile c) := by
  simp only [step, h]

theorem exec_of_failed {s : State} {c : WfCheck} (h : s.profile.failedCheck = some c) (i : Instr) :
    exec i s = .refused (.illFormedProfile c) := by
  rw [exec_eq_whenConfigured, State.whenConfigured_of_failed h]

theorem configure_of_failed {P : Profile} {c : WfCheck} (h : P.failedCheck = some c) :
    configure P = .refused (.illFormedProfile c) :=
  State.whenConfigured_of_failed (s := State.powerUp P) h

/-- Settles O1: the checks are R30's five and the two widths, and each of the three entry points tests them first. -/
theorem illFormedProfileIsRefused : Obligations.IllFormedProfileIsRefused := by
  refine fun P => ⟨?_, fun c h => ⟨configure_of_failed h, ?_⟩⟩
  · rw [Profile.failedCheck_eq_none_iff, Profile.passesR30_iff]
    simp only [and_assoc, Profile.PinsFit, Profile.TokensFit]
  · rintro s rfl
    exact ⟨step_of_failed h, exec_of_failed h⟩

end Machine

end Sys2Proof

/-! What an operation, a step and a run leave unchanged (10_state.md R23, R31), and what they return. -/

namespace Sys2Proof.Machine

section Runs

variable {M : Host.Core} {s t : M.State} {n : Nat}

/-- A run that goes on takes a step first. -/
theorem run_succ_eq_next : M.run (n + 1) s = .next t ↔ ∃ u, M.step s = .next u ∧ M.run n u = .next t := by
  rw [Host.Core.run]
  cases M.step s <;> simp

/-- A property that every step keeps holds after a run of any length. -/
theorem run_keeps {p : M.State → Prop} (hstep : ∀ {u v}, p u → M.step u = .next v → p v) (hs : p s)
    (h : M.run n s = .next t) : p t := by
  induction n generalizing s with
  | zero => exact Host.Outcome.next.inj h ▸ hs
  | succ n ih =>
    obtain ⟨u, hu, hrun⟩ := run_succ_eq_next.1 h
    exact ih (hstep hs hu) hrun

end Runs

section Frames

variable {i : Instr} {s t : State}

/-- Everything an operation can do when it answers a next state. -/
theorem exec_eq_next_iff : exec i s = .next t ↔ s.Configured ∧ t = s.driveWord (encode i) := by
  rw [exec_eq_whenConfigured, State.whenConfigured_eq_next]

theorem eq_driveWord_of_exec {w : InputWord} (hw : encode i = w) (h : exec i s = .next t) : t = s.driveWord w :=
  hw ▸ (exec_eq_next_iff.1 h).2

theorem exec_profile (h : exec i s = .next t) : t.profile = s.profile := by
  rw [eq_driveWord_of_exec rfl h, State.driveWord_profile]

theorem step_profile (h : step s = .next t) : t.profile = s.profile := by
  obtain ⟨-, ⟨-, rfl⟩ | ⟨w, rest, i, -, -, rfl⟩⟩ := step_eq_next_driveWord h
  · rfl
  · exact State.driveWord_profile { s with requests := rest } w

end Frames

/-- Settles O7: no word that is driven changes the profile, and a run keeps what every step keeps. -/
theorem profileIsImmutable : Obligations.ProfileIsImmutable :=
  ⟨fun _ _ _ => exec_profile, fun _ _ => step_profile, fun _ s _ =>
    run_keeps (M := core) (p := fun u => u.profile = s.profile) (fun hu h => (step_profile h).trans hu) rfl⟩

/-- Settles O38: the row drives PTAB alone. -/
theorem lookupFrame : Obligations.LookupFrame := by
  intro i id s t hi h
  rw [eq_driveWord_of_exec hi h]
  simp [State.driveWord]

/-- Settles O39: the row drives PROLE alone. -/
theorem roleFrame : Obligations.RoleFrame := by
  intro i pin s t hi h
  rw [eq_driveWord_of_exec hi h]
  simp [State.driveWord]

/-- Settles O40: the row drives LCE alone. -/
theorem encodeFrame : Obligations.EncodeFrame := by
  intro i o s t hi h
  rw [eq_driveWord_of_exec hi h]
  simp [State.driveWord]

/-- Driving a word that decodes appends its unit's output, and nothing for a command word, to the samples. -/
theorem State.driveWord_samples {s : State} {w : InputWord} {i : Instr} (hd : decode s.profile w = .ok i) :
    (s.driveWord w).samples = s.samples ++ (expectedOutput s.profile w).toList := by
  cases w with
  | lineOpt | portId => rfl
  | pin pin => simp [State.driveWord, expectedOutput, (decode_pin_eq_ok.1 hd).1]
  | cmd | cmdSubMode => exact (List.append_nil _).symm

/-- A step on a word that decodes appends what the word makes the block return to the samples. -/
theorem step_samples {s : State} {w : InputWord} {rest : List InputWord} {i : Instr} (hc : s.Configured)
    (hr : s.requests = w :: rest) (hd : decode s.profile w = .ok i) :
    ∃ t, step s = .next t ∧ t.samples = s.samples ++ (expectedOutput s.profile w).toList :=
  ⟨_, step_of_decode_ok hc hr hd, State.driveWord_samples (s := { s with requests := rest }) hd⟩

/-- Settles O41: what the decoder reads and what the units return are functions of the word and the profile. -/
theorem outputsDependOnInputAndProfileOnly : Obligations.OutputsDependOnInputAndProfileOnly := by
  intro s s' w rest rest' hprofile hc hr hr'
  have hc' : s'.Configured := (congrArg Profile.failedCheck hprofile).symm.trans hc
  cases hd : decode s.profile w with
  | ok i =>
    obtain ⟨t, ht, hout⟩ := step_samples hc hr hd
    obtain ⟨t', ht', hout'⟩ := step_samples hc' hr' (hprofile ▸ hd)
    exact .inr ⟨t, t', _, ht, ht', hout, hprofile ▸ hout', Option.length_toList_le⟩
  | error e =>
    exact .inl ⟨_, step_of_decode_error hc hr hd, step_of_decode_error hc' hr' (hprofile ▸ hd)⟩

end Sys2Proof.Machine

/-! What PTAB can return (20_memory.md R54, R55, R57), and that operations do not disturb each other (R60). -/

namespace Sys2Proof

theorem eq_id_of_portIndex {id : PortId} {p : SerialPort} (hle : id ≤ 0x07) (hidx : portIndex id = p.idx) :
    id = p.id := by
  cases p <;> revert id <;> decide

/-- Everything LOOKUP_PINS can give under `WF(P)`: the entry of the present hardware port the identifier names, or the
sentinel (R55, R100). -/
theorem Profile.lookupPins_cases {P : Profile} (h : P.failedCheck = none) (id : PortId) :
    (∃ p : SerialPort, id = p.id ∧ P.present p.idx = true ∧ P.lookupPins id = P.pins p.idx) ∨
      P.lookupPins id = PinPair.sentinel := by
  unfold Profile.lookupPins
  split
  case isTrue hport =>
    obtain ⟨hle, hpresent⟩ := hport
    obtain ⟨p, hp⟩ := Profile.port_of_present h hpresent
    exact .inl ⟨p, eq_id_of_portIndex hle hp, hp ▸ hpresent, hp ▸ rfl⟩
  case isFalse => exact .inr rfl

namespace Machine

/-- An operation of a configured block completes and drives its word. -/
theorem exec_of_configured {s : State} (hc : s.Configured) (i : Instr) : exec i s = .next (s.driveWord (encode i)) :=
  exec_eq_next_iff.2 ⟨hc, rfl⟩

/-- The operation read from a word drives that word. -/
theorem exec_of_decode_ok {s : State} {w : InputWord} {i : Instr} (hc : s.Configured)
    (hd : decode s.profile w = .ok i) : exec i s = .next (s.driveWord w) := by
  rw [exec_of_configured hc, encode_of_decode hd]

/-- Settles O29: an identifier that names no hardware port with role codes leaves LOOKUP_PINS the sentinel alone. -/
theorem otherIdentifiersGetTheSentinel : Obligations.OtherIdentifiersGetTheSentinel := by
  intro s id hc h1 h2 h3
  have hsentinel : s.profile.lookupPins id = PinPair.sentinel := by
    obtain ⟨p, hid, -⟩ | hsentinel := Profile.lookupPins_cases hc id
    · cases p with
      | one => exact absurd hid h1
      | two => exact absurd hid h2
      | three => exact absurd hid h3
    · exact hsentinel
  refine ⟨_, _, rfl, exec_of_decode_ok (w := .portId id) hc rfl, ?_⟩
  rw [State.driveWord, hsentinel]
  exact ⟨rfl, rfl, rfl⟩

/-- Settles O31: the row drives what LOOKUP_PINS gives, which is one port's entry or the sentinel. -/
theorem pairComesFromOnePort : Obligations.PairComesFromOnePort := by
  intro s t i id hi h
  obtain ⟨hc, -⟩ := exec_eq_next_iff.1 h
  rw [eq_driveWord_of_exec hi h, State.driveWord, State.drivePtab_rxPin, State.drivePtab_txPin]
  obtain ⟨p, -, hpresent, hpair⟩ | hsentinel := Profile.lookupPins_cases hc id
  · rw [hpair]
    exact .inl ⟨p.idx, hpresent, rfl, rfl⟩
  · rw [hsentinel]
    exact .inr ⟨rfl, rfl⟩

/-- What driving a word appends to the samples, a pin of any width included. -/
def drivenOutputs (P : Profile) : InputWord → List Output
  | .lineOpt o => [.cfg (P.encode o)]
  | .portId id => [.pins (P.lookupPins id)]
  | .pin pin => [.role (P.roleOf pin)]
  | .cmd _ => []
  | .cmdSubMode _ => []

/-- What a word returns is a function of the word and the profile, not of the operations before it (R60, R173). -/
theorem State.driveWord_samples_eq (s : State) (w : InputWord) :
    (s.driveWord w).samples = s.samples ++ drivenOutputs s.profile w := by
  cases w with
  | lineOpt | portId | pin => rfl
  | cmd | cmdSubMode => exact (List.append_nil _).symm

theorem State.driveWord_driveWord_samples (s : State) (v w : InputWord) :
    ((s.driveWord v).driveWord w).samples =
      s.samples ++ drivenOutputs s.profile v ++ drivenOutputs s.profile w := by
  rw [State.driveWord_samples_eq, State.driveWord_samples_eq, State.driveWord_profile]

/-- Words on different units drive different ports, and a command word drives none (R60). -/
theorem State.driveWord_ports_comm {v w : InputWord} (s : State) (h : sameUnit v w = false) :
    { (s.driveWord v).driveWord w with samples := [] } = { (s.driveWord w).driveWord v with samples := [] } := by
  cases v with
  | lineOpt =>
    cases w with
    | lineOpt => cases h
    | portId | pin | cmd | cmdSubMode => rfl
  | portId =>
    cases w with
    | portId => cases h
    | lineOpt | pin | cmd | cmdSubMode => rfl
  | pin =>
    cases w with
    | pin => cases h
    | lineOpt | portId | cmd | cmdSubMode => rfl
  | cmd | cmdSubMode => rfl

/-- Settles O42: each operation drives its word, which keeps the profile the other one's output depends on. -/
theorem operationsCommute : Obligations.OperationsCommute := by
  intro i j s hc
  have hconfigured (k : Instr) : (s.driveWord (encode k)).Configured := State.configured_driveWord.2 hc
  exact ⟨_, _, _, _, drivenOutputs s.profile (encode i), drivenOutputs s.profile (encode j),
    exec_of_configured hc i, exec_of_configured (hconfigured i) j,
    exec_of_configured hc j, exec_of_configured (hconfigured j) i,
    s.driveWord_driveWord_samples _ _, s.driveWord_driveWord_samples _ _,
    s.driveWord_samples_eq _, s.driveWord_samples_eq _, s.driveWord_ports_comm⟩

end Machine

end Sys2Proof

/-! What encodes to a word is what the decoder reads from it (30_encoding.md R88), in each of the five formats. -/

namespace Sys2Proof

/-! ### Command bytes -/

@[simp] theorem opcodeNibble_append (o port : BitVec 4) : opcodeNibble (o ++ port) = o :=
  BitVec.extractLsb'_append_eq_left

@[simp] theorem portNibble_append (o port : BitVec 4) : portNibble (o ++ port) = port :=
  BitVec.extractLsb'_append_eq_right

theorem toNat_opcodeNibble (c : CommandByte) : (opcodeNibble c).toNat = c.toNat / 16 := by
  have hc := c.isLt
  simp only [opcodeNibble, BitVec.extractLsb'_toNat, Nat.shiftRight_eq_div_pow]
  omega

theorem toNat_portNibble (c : CommandByte) : (portNibble c).toNat = c.toNat % 16 := by
  simp [portNibble, BitVec.extractLsb'_toNat]

theorem toNat_maskIdentifier (c : BitVec 8) : (maskIdentifier c).toNat = c.toNat % 16 := by
  rw [maskIdentifier, BitVec.toNat_and]
  exact Nat.and_two_pow_sub_one_eq_mod c.toNat 4

/-- The caller's mask keeps the port nibble (R84, R195). -/
theorem maskIdentifier_eq_portNibble (c : CommandByte) : maskIdentifier c = (portNibble c).setWidth 8 := by
  apply BitVec.eq_of_toNat_eq
  rw [toNat_maskIdentifier, BitVec.toNat_setWidth, toNat_portNibble]
  omega

/-- A byte of the vocabulary has an opcode in its high nibble, and none is 0 (R82). -/
theorem opcodeNibble_ne_zero_of_encode {i : Instr} {c : CommandByte} (h : encode i = .cmd c) :
    opcodeNibble c ≠ 0 := by
  cases i <;> simp only [encode, reduceCtorEq, InputWord.cmd.injEq] at h
  all_goals
    rw [← h, opcodeNibble_append]
    decide

/-! ### decode after encode -/

section DecodeEncode

variable {P : Profile} {i : Instr}

/-- A row of LCE is read from its word; ENCODE.DEFAULT only from a word that no triple row takes. -/
theorem decode_encode_lineOpt {o : LineOptions} (hwf : i.wf = true) (h : encode i = .lineOpt o) :
    decode P (encode i) = .ok i := by
  rw [h]
  refine congrArg Except.ok ?_
  obtain rfl | ⟨p, s, d, x, rfl, rfl⟩ := encode_lineOpt_cases h
  · have hnone : tripleOf o = none := Option.isNone_iff_eq_none.1 hwf
    rw [decodeLineOpt, hnone]
  · exact decodeLineOpt_optionsWord x p s d

theorem wf_lookupPinsSentinel_iff {id : PortId} :
    (Instr.lookupPinsSentinel id).wf = true ↔ id ≠ 0x01 ∧ id ≠ 0x02 ∧ id ≠ 0x03 := by
  simp only [Instr.wf, Bool.and_eq_true, bne_iff_ne, and_assoc]

/-- LOOKUP_PINS.SENTINEL is read from the identifiers its pattern leaves it (R88). -/
theorem decode_encode_sentinel {id : PortId} (hwf : (Instr.lookupPinsSentinel id).wf = true) :
    decode P (.portId id) = .ok (.lookupPinsSentinel id) := by
  obtain ⟨h1, h2, h3⟩ := wf_lookupPinsSentinel_iff.1 hwf
  simp only [decode, decodePortId, h1, h2, h3, if_false]

/-- A candidate's row is selected by exactly the pins of `PIN_W` bits that select the candidate (R33, R121). -/
theorem selectedBy_ofRole_iff {p : SerialPort} {d : Dir} {pin : Pin} :
    (Instr.ofRole p d pin).selectedBy P = true ↔ pin < 2 ^ P.pinW ∧ P.selectedRole pin = some (p, d) := by
  rw [← Profile.fitsPin_iff, ← beq_iff_eq (a := P.selectedRole pin), ← Bool.and_eq_true]
  cases p <;> cases d <;> rfl

theorem selectedBy_roleOfNone_iff {pin : Pin} :
    (Instr.roleOfNone pin).selectedBy P = true ↔ pin < 2 ^ P.pinW ∧ P.selectedRole pin = none := by
  rw [Instr.selectedBy, Bool.and_eq_true, beq_iff_eq, Profile.fitsPin_iff]

theorem decode_encode_ofRole {p : SerialPort} {d : Dir} {pin : Pin}
    (hsel : (Instr.ofRole p d pin).selectedBy P = true) :
    decode P (.pin pin) = .ok (Instr.ofRole p d pin) := by
  obtain ⟨hfits, hselected⟩ := selectedBy_ofRole_iff.1 hsel
  exact decode_pin_eq_ok.2 ⟨hfits, by rw [decodePin, hselected]⟩

theorem decode_encode_roleOfNone {pin : Pin} (hsel : (Instr.roleOfNone pin).selectedBy P = true) :
    decode P (.pin pin) = .ok (.roleOfNone pin) := by
  obtain ⟨hfits, hselected⟩ := selectedBy_roleOfNone_iff.1 hsel
  exact decode_pin_eq_ok.2 ⟨hfits, by rw [decodePin, hselected]⟩

end DecodeEncode

/-- Settles O12: one row after another; the rows of LCE share `decode_encode_lineOpt`, those of PROLE
`decode_encode_ofRole`. -/
theorem decodeEncodeRoundTrip : Obligations.DecodeEncodeRoundTrip := by
  intro P i hwf hsel
  cases i
  case lookupPinsHw1 | lookupPinsHw2 | lookupPinsHw3 => rfl
  case lookupPinsSentinel id => exact decode_encode_sentinel hwf
  case roleOfRx1 pin => exact decode_encode_ofRole (p := .one) (d := .rx) hsel
  case roleOfTx1 pin => exact decode_encode_ofRole (p := .one) (d := .tx) hsel
  case roleOfRx2 pin => exact decode_encode_ofRole (p := .two) (d := .rx) hsel
  case roleOfTx2 pin => exact decode_encode_ofRole (p := .two) (d := .tx) hsel
  case roleOfRx3 pin => exact decode_encode_ofRole (p := .three) (d := .rx) hsel
  case roleOfTx3 pin => exact decode_encode_ofRole (p := .three) (d := .tx) hsel
  case roleOfNone pin => exact decode_encode_roleOfNone hsel
  case cmdConfigure | cmdWrite | cmdReadRequest | cmdReply | cmdClose | cmdFlush | cmdListenSubscribe =>
    simp [encode, decode, decodeCmd]
  case cmdReadRequestModeContinuous | cmdReadRequestModeStop => rfl
  all_goals exact decode_encode_lineOpt hwf rfl

/-! ### encode after decode -/

section EncodeDecode

variable {P : Profile} {i : Instr}

theorem wf_ofTriple (p : Parity) (s : StopBits) (d : DataBits) (x : BitVec 7) :
    (Instr.ofTriple p s d x).wf = true := by
  cases p <;> cases s <;> cases d <;> rfl

theorem selectedBy_ofTriple (p : Parity) (s : StopBits) (d : DataBits) (x : BitVec 7) :
    (Instr.ofTriple p s d x).selectedBy P = true := by
  cases p <;> cases s <;> cases d <;> rfl

theorem wf_ofRole (p : SerialPort) (d : Dir) (pin : Pin) : (Instr.ofRole p d pin).wf = true := by
  cases p <;> cases d <;> rfl

theorem wf_selectedBy_decodeLineOpt (o : LineOptions) :
    (decodeLineOpt o).wf = true ∧ (decodeLineOpt o).selectedBy P = true := by
  unfold decodeLineOpt
  split
  case h_1 p s d _ => exact ⟨wf_ofTriple p s d _, selectedBy_ofTriple p s d _⟩
  case h_2 hnone => exact ⟨Option.isNone_iff_eq_none.2 hnone, rfl⟩

theorem wf_selectedBy_decodePortId (id : PortId) :
    (decodePortId id).wf = true ∧ (decodePortId id).selectedBy P = true := by
  unfold decodePortId
  split_ifs with h1 h2 h3
  case neg => exact ⟨wf_lookupPinsSentinel_iff.2 ⟨h1, h2, h3⟩, rfl⟩
  all_goals exact ⟨rfl, rfl⟩

theorem wf_selectedBy_decodePin {pin : Pin} (hfits : pin < 2 ^ P.pinW) :
    (decodePin P pin).wf = true ∧ (decodePin P pin).selectedBy P = true := by
  unfold decodePin
  split
  case h_1 p d hselected => exact ⟨wf_ofRole p d pin, selectedBy_ofRole_iff.2 ⟨hfits, hselected⟩⟩
  case h_2 hselected => exact ⟨rfl, selectedBy_roleOfNone_iff.2 ⟨hfits, hselected⟩⟩

theorem wf_selectedBy_of_decodeCmd {c : CommandByte} (h : decodeCmd c = .ok i) :
    i.wf = true ∧ i.selectedBy P = true := by
  unfold decodeCmd at h
  split_ifs at h <;> cases h <;> exact ⟨rfl, rfl⟩

theorem wf_selectedBy_of_decodeCmdSubMode {m : BitVec 8} (h : decodeCmdSubMode m = .ok i) :
    i.wf = true ∧ i.selectedBy P = true := by
  unfold decodeCmdSubMode at h
  split_ifs at h <;> cases h <;> exact ⟨rfl, rfl⟩

/-- What the decoder reads is admitted by its row's pattern and selected by the profile. -/
theorem wf_selectedBy_of_decode {w : InputWord} (h : decode P w = .ok i) :
    i.wf = true ∧ i.selectedBy P = true := by
  cases w with
  | lineOpt o => cases h; exact wf_selectedBy_decodeLineOpt o
  | portId id => cases h; exact wf_selectedBy_decodePortId id
  | pin pin =>
    obtain ⟨hfits, rfl⟩ := decode_pin_eq_ok.1 h
    exact wf_selectedBy_decodePin hfits
  | cmd c => exact wf_selectedBy_of_decodeCmd h
  | cmdSubMode m => exact wf_selectedBy_of_decodeCmdSubMode h

end EncodeDecode

/-- Settles O13: `encode_of_decode` and what the decoder admits, format by format. -/
theorem encodeDecodeRoundTrip : Obligations.EncodeDecodeRoundTrip :=
  fun _ _ _ h => ⟨encode_of_decode h, wf_selectedBy_of_decode h⟩

/-- Settles O14: each word is written out, so the decoder computes. -/
theorem tableWordsDecode : Obligations.TableWordsDecode :=
  fun _ => ⟨rfl, rfl, rfl, rfl, rfl, rfl, rfl, rfl⟩

/-! ### Words that are rejected -/

/-- The opcodes outside the table are 0 and 8 to 15 (R82, R87). -/
theorem decodeCmd_eq_error_iff {c : CommandByte} :
    (∃ e, decodeCmd c = .error e) ↔ c.toNat / 16 = 0 ∨ 8 ≤ c.toNat / 16 := by
  rw [← toNat_opcodeNibble]
  unfold decodeCmd
  split_ifs with h1 h2 h3 h4 h5 h6 h7
  case neg =>
    simp only [Except.error.injEq, exists_eq', true_iff]
    bv_omega
  all_goals simp [*]

theorem decodeCmdSubMode_eq_error_iff {m : BitVec 8} : (∃ e, decodeCmdSubMode m = .error e) ↔ 2 ≤ m.toNat := by
  unfold decodeCmdSubMode
  split_ifs with h0 h1
  · simp [h0]
  · simp [h1]
  · simp only [Except.error.injEq, exists_eq', true_iff]
    bv_omega

theorem decode_pin_eq_error_iff {P : Profile} {pin : Pin} :
    (∃ e, decode P (.pin pin) = .error e) ↔ 2 ^ P.pinW ≤ pin := by
  by_cases hp : pin < 2 ^ P.pinW
  · simp [decode, hp]
  · simp [decode, hp, Nat.le_of_not_lt hp]

/-- Settles O15: only the formats of commands and pins have words that are rejected, and a step passes the decoder's
name on. -/
theorem unlistedCommandWordsAreRejected : Obligations.UnlistedCommandWordsAreRejected := by
  refine fun P w => ⟨?_, fun s rest e hP hc hr hd => Machine.step_of_decode_error hc hr (hP ▸ hd)⟩
  cases w with
  | lineOpt o => simp [decode]
  | portId id => simp [decode]
  | pin pin => simp [decode_pin_eq_error_iff]
  | cmd c => simp [decode, decodeCmd_eq_error_iff]
  | cmdSubMode m => simp [decode, decodeCmdSubMode_eq_error_iff]

/-! ### Fields of command bytes and LineOptions words -/

/-- A constructor whose word is the opcode `o` before the port has R81's layout, from the byte `v` with port 0. -/
theorem commandByte_layout {mk : BitVec 4 → Instr} {o : BitVec 4} {v : CommandByte} (hv : v = o ++ 0#4)
    (h : ∀ port, encode (mk port) = .cmd (o ++ port)) :
    encode (mk 0) = .cmd v ∧ ∀ port : BitVec 4, ∃ c : CommandByte, encode (mk port) = .cmd c ∧
      16 * (opcodeNibble c).toNat = v.toNat ∧ portNibble c = port ∧ c.toNat = v.toNat + port.toNat := by
  subst hv
  refine ⟨h 0, fun port => ⟨o ++ port, h port, ?_, portNibble_append o port, ?_⟩⟩
  · rw [opcodeNibble_append, toNat_append_add]
    rfl
  · simp only [toNat_append_add]
    rfl

/-- Settles O16: the encoder writes each of the seven opcodes before the port. -/
theorem commandBytesOfTheVocabulary : Obligations.CommandBytesOfTheVocabulary := by
  unfold Obligations.CommandBytesOfTheVocabulary
  simp only [List.forall_mem_cons, List.not_mem_nil, false_implies, implies_true, and_true]
  exact ⟨commandByte_layout (o := 1) rfl fun _ => rfl, commandByte_layout (o := 2) rfl fun _ => rfl,
    commandByte_layout (o := 3) rfl fun _ => rfl, commandByte_layout (o := 4) rfl fun _ => rfl,
    commandByte_layout (o := 5) rfl fun _ => rfl, commandByte_layout (o := 6) rfl fun _ => rfl,
    commandByte_layout (o := 7) rfl fun _ => rfl⟩

/-- The word a caller assembles (R76) is R71's layout with the ignored bits clear. -/
theorem assembleOptions_eq_append (d : BitVec 4) (p : BitVec 3) (s : BitVec 2) :
    assembleOptions d p s = 0#7 ++ d ++ p ++ s := by
  ext i hi
  grind [assembleOptions]

/-- Settles O17: the word is R71's layout of its fields. -/
theorem assembledWordHasItsFields : Obligations.AssembledWordHasItsFields := by
  intro x d p s o ho
  have hlayout : o = x ++ d ++ p ++ s := by
    apply BitVec.eq_of_toNat_eq
    simp only [ho, toNat_append_add]
    omega
  obtain ⟨hx, hd, hp, hs⟩ := fields_append x d p s
  subst hlayout
  exact ⟨hd, hp, hs, hx, fun hzero => hzero ▸ (assembleOptions_eq_append d p s).symm⟩

/-! ### Commands and the block -/

/-- Settles O30: a command's byte is at least 0x10, above every identifier. -/
theorem commandByteNeedsTheMask : Obligations.CommandByteNeedsTheMask := by
  intro P i c h
  refine ⟨?_, toNat_maskIdentifier c, congrArg InputWord.portId (maskIdentifier_eq_portNibble c)⟩
  have hbyte : ¬ c ≤ 0x07 := fun hle =>
    opcodeNibble_ne_zero_of_encode h
      (BitVec.eq_of_toNat_eq ((toNat_opcodeNibble c).trans (Nat.div_eq_of_lt (by bv_omega))))
  rw [Profile.lookupPins, if_neg fun hport => hbyte hport.1]

namespace Machine

/-- Settles O37: a command word drives no unit. -/
theorem commandsLeaveTheBlockUnchanged : Obligations.CommandsLeaveTheBlockUnchanged := by
  intro s i hc h
  rw [exec_of_configured hc]
  obtain ⟨c, h⟩ | ⟨m, h⟩ := h <;> rw [h] <;> rfl

end Machine

end Sys2Proof

/-! What is sampled: every word on an input of the block decodes (30_encoding.md R85), and the sample is what its unit's
pseudocode gives it. -/

namespace Sys2Proof

/-- A port's identifier is its number (R54). -/
theorem SerialPort.toNat_id (p : SerialPort) : p.id.toNat = p.idx.val := by
  cases p <;> rfl

/-- A pin of no present port selects no row and gets 0 (R120, R123). -/
theorem Profile.roleOf_eq_zero {P : Profile} {pin : Pin}
    (h : ∀ p : PortIdx, P.present p = true → pin ≠ P.rx p ∧ pin ≠ P.tx p) : P.roleOf pin = 0 := by
  rw [Profile.roleOf_eq_selected]
  cases hselected : P.selectedRole pin with
  | none => rfl
  | some row =>
    obtain ⟨p, d⟩ := row
    obtain ⟨hpresent, hpin⟩ := Profile.matches_of_selectedRole hselected
    obtain ⟨hrx, htx⟩ := h p.idx hpresent
    cases d with
    | rx => exact absurd hpin hrx
    | tx => exact absurd hpin htx

namespace Machine

/-- What a word makes the block return is an output that some input gives. -/
theorem outputProduced_of_expectedOutput {P : Profile} {w : InputWord} {o : Output}
    (h : expectedOutput P w = some o) : outputProduced P o := by
  cases w with
  | lineOpt options => cases h; exact ⟨options, rfl⟩
  | portId id => cases h; exact ⟨id, rfl⟩
  | pin pin =>
    simp only [expectedOutput, Option.ite_none_right_eq_some, Option.some.injEq] at h
    obtain ⟨hfits, rfl⟩ := h
    exact ⟨pin, Profile.fitsPin_iff.2 hfits, rfl⟩
  | cmd | cmdSubMode => cases h

/-- Settles O6: a step adds to the samples at most what the presented word makes the block return. -/
theorem stepSamplesOnlyProducedOutputs : Obligations.StepSamplesOnlyProducedOutputs := by
  intro s t hs h o ho
  rw [step_profile h]
  obtain ⟨-, ⟨-, rfl⟩ | ⟨w, rest, i, -, hd, rfl⟩⟩ := step_eq_next_driveWord h
  · exact hs o ho
  · rw [State.driveWord_samples (s := { s with requests := rest }) hd, List.mem_append, Option.mem_toList] at ho
    exact ho.elim (hs o) outputProduced_of_expectedOutput

/-- A word that makes the block return something decodes. -/
theorem decode_ok_of_expectedOutput {P : Profile} {w : InputWord} (h : (expectedOutput P w).isSome) :
    ∃ i, decode P w = .ok i := by
  cases w with
  | lineOpt | portId => exact ⟨_, rfl⟩
  | pin pin =>
    have hfits : pin < 2 ^ P.pinW := by simpa [expectedOutput] using h
    exact ⟨_, decode_pin_eq_ok.2 ⟨hfits, rfl⟩⟩
  | cmd | cmdSubMode => cases h

@[simp] theorem State.driveWord_requests (s : State) (w : InputWord) : (s.driveWord w).requests = s.requests := by
  cases w <;> rfl

/-- Settles O10, by induction on the list: the first word is driven, which keeps the profile and the later words. -/
theorem everyOperationListRunsToItsOutputs : Obligations.EveryOperationListRunsToItsOutputs := by
  intro ws
  induction ws with
  | nil => exact fun s _ hr _ => ⟨s, rfl, hr, (List.append_nil _).symm⟩
  | cons w ws ih =>
    intro s hc hr hout
    obtain ⟨hw, hws⟩ := List.forall_mem_cons.1 hout
    obtain ⟨i, hd⟩ := decode_ok_of_expectedOutput hw
    have hstep := step_of_decode_ok hc hr hd
    have hsamples := State.driveWord_samples (s := { s with requests := ws }) hd
    generalize hu : { s with requests := ws }.driveWord w = u at hstep hsamples
    have hprofile : u.profile = s.profile := step_profile hstep
    have hrequests : u.requests = ws := by rw [← hu, State.driveWord_requests]
    obtain ⟨t, hrun, hdone, ht⟩ :=
      ih u (by rw [State.Configured, hprofile]; exact hc) hrequests (hprofile ▸ hws)
    refine ⟨t, run_succ_eq_next.2 ⟨u, hstep, hrun⟩, hdone, ?_⟩
    obtain ⟨o, ho⟩ := Option.isSome_iff_exists.1 hw
    rw [ht, hsamples, hprofile, List.filterMap_cons_some ho, ho]
    simp

/-- Settles O11: each word decodes and drives what its unit's pseudocode gives. -/
theorem everyInputValueHasAnOutput : Obligations.EveryInputValueHasAnOutput := by
  refine fun s hc => ⟨fun o => ?_, fun id => ?_, fun pin hfits => ?_⟩
  · obtain ⟨p, st, d, -, htoken⟩ := Profile.encode_eq_token hc o
    exact ⟨_, _, p, st, d, rfl, exec_of_decode_ok (w := .lineOpt o) hc rfl, htoken⟩
  · refine ⟨_, _, rfl, exec_of_decode_ok (w := .portId id) hc rfl, fun habsent => ?_⟩
    obtain ⟨p, rfl, hpresent, -⟩ | hsentinel := Profile.lookupPins_cases hc id
    · exact absurd p.toNat_id (habsent p.idx hpresent)
    · rw [State.driveWord, hsentinel]
      exact ⟨rfl, rfl⟩
  · have hd : decode s.profile (.pin pin) = .ok (decodePin s.profile pin) := decode_pin_eq_ok.2 ⟨hfits, rfl⟩
    exact ⟨_, _, hd, exec_of_decode_ok hc hd, Profile.roleOf_eq_zero⟩

end Machine

end Sys2Proof

/-! What LOOKUP_PINS gives each identifier (40_port_table.md R100, R104). -/

namespace Sys2Proof

theorem SerialPort.exists_iff {q : SerialPort → Prop} : (∃ p, q p) ↔ q .one ∨ q .two ∨ q .three := by
  constructor
  · rintro ⟨p, hp⟩
    cases p with
    | one => exact .inl hp
    | two => exact .inr (.inl hp)
    | three => exact .inr (.inr hp)
  · rintro (hp | hp | hp) <;> exact ⟨_, hp⟩

theorem PinPair.eq_sentinel_iff {pair : PinPair} : pair = PinPair.sentinel ↔ pair.rx = 0 ∧ pair.tx = 0 := by
  cases pair
  simp only [PinPair.sentinel, PinPair.mk.injEq]

/-- Under `WF(P)` LOOKUP_PINS gives (0, 0) exactly outside the present hardware set: `WF_PAIR` keeps a present port's
entry from being the sentinel (R30, R104). -/
theorem Profile.lookupPins_eq_sentinel_iff {P : Profile} (h : P.failedCheck = none) {id : PortId} :
    P.lookupPins id = PinPair.sentinel ↔ ¬ ∃ p : SerialPort, id = p.id ∧ P.present p.idx = true := by
  constructor
  · rintro hsentinel ⟨p, rfl, hpresent⟩
    have hpair := Profile.passes_of_failedCheck_none h .pair
    simp only [Profile.passes, decide_eq_true_eq] at hpair
    rw [Profile.lookupPins_id, if_pos hpresent] at hsentinel
    exact hpair p.idx hpresent hsentinel
  · intro habsent
    obtain ⟨p, hid, hpresent, -⟩ | hsentinel := Profile.lookupPins_cases h id
    · exact absurd ⟨p, hid, hpresent⟩ habsent
    · exact hsentinel

namespace Machine

/-- Settles O27: every row of PTAB drives what LOOKUP_PINS gives the row's identifier. -/
theorem lookupRowsRefinePseudocode : Obligations.LookupRowsRefinePseudocode := by
  intro i id s hi hc
  rw [exec_of_configured hc, hi]
  rfl

/-- Driving an identifier again leaves PTAB's outputs as they are: they depend on the profile and the identifier alone
(R104). -/
theorem State.driveWord_portId_idem (s : State) (id : PortId) :
    ((s.driveWord (.portId id)).driveWord (.portId id)).rxPin = (s.driveWord (.portId id)).rxPin ∧
      ((s.driveWord (.portId id)).driveWord (.portId id)).txPin = (s.driveWord (.portId id)).txPin :=
  ⟨rfl, rfl⟩

/-- Settles O28: both executions drive the identifier's word, and the pair driven is the sentinel exactly for the
identifiers of no present port. -/
theorem sentinelExactlyForAbsentPorts : Obligations.SentinelExactlyForAbsentPorts := by
  intro s id hc
  obtain ⟨hrx, htx⟩ := s.driveWord_portId_idem id
  refine ⟨_, _, _, rfl, exec_of_decode_ok (w := .portId id) hc rfl,
    exec_of_decode_ok (w := .portId id) (State.configured_driveWord.2 hc) rfl, hrx, htx, ?_⟩
  calc (s.driveWord (.portId id)).rxPin = 0 ∧ (s.driveWord (.portId id)).txPin = 0
    _ ↔ s.profile.lookupPins id = PinPair.sentinel := PinPair.eq_sentinel_iff.symm
    _ ↔ ¬ ∃ p : SerialPort, id = p.id ∧ s.profile.present p.idx = true := Profile.lookupPins_eq_sentinel_iff hc
    _ ↔ _ := not_congr SerialPort.exists_iff

end Machine

end Sys2Proof

/-! Which role ROLE_OF gives a pin (41_pin_role.md R120 to R127): the earliest present one in the order of R121. -/

namespace Sys2Proof

section PinRoles

variable {P : Profile} {pin : Pin}

/-- The selector's comparison is R120's: the port is present and the pin is the role's. -/
theorem Profile.roleMatches_iff {row : SerialPort × Dir} :
    P.roleMatches pin row = true ↔ isPresentRole P pin row.1 row.2 := by
  simp only [Profile.roleMatches, Bool.and_eq_true, beq_iff_eq, isPresentRole]

/-- Everything ROLE_OF can give: the code of the selected role, which is a present role of the pin, or 0 where no role
is selected (R120, R127). -/
theorem Profile.roleOf_cases (P : Profile) (pin : Pin) :
    (∃ p d, P.selectedRole pin = some (p, d) ∧ isPresentRole P pin p d ∧ P.roleOf pin = P.roleCode p d) ∨
      (P.selectedRole pin = none ∧ P.roleOf pin = 0) := by
  rw [Profile.roleOf_eq_selected]
  cases hselected : P.selectedRole pin with
  | none => exact .inr ⟨rfl, rfl⟩
  | some row => exact .inl ⟨row.1, row.2, rfl, Profile.matches_of_selectedRole hselected, rfl⟩

theorem Profile.roleOf_of_selectedRole {p : SerialPort} {d : Dir} (h : P.selectedRole pin = some (p, d)) :
    P.roleOf pin = P.roleCode p d := by
  rw [Profile.roleOf_eq_selected, h]

/-- A pin that is some present role's selects a role. -/
theorem Profile.selectedRole_ne_none {p : SerialPort} {d : Dir} (h : isPresentRole P pin p d) :
    P.selectedRole pin ≠ none := fun hnone =>
  List.find?_eq_none.1 hnone (p, d) (mem_rolePriority p d) (Profile.roleMatches_iff.2 h)

/-- The earliest present role in the order of R121 is the one selected (R122). -/
theorem Profile.selectedRole_of_earliest {pre post : List (SerialPort × Dir)} {p : SerialPort} {d : Dir}
    (horder : rolePriority = pre ++ (p, d) :: post) (hpre : ∀ e ∈ pre, ¬ isPresentRole P pin e.1 e.2)
    (h : isPresentRole P pin p d) : P.selectedRole pin = some (p, d) :=
  List.find?_eq_some_iff_append.2 ⟨Profile.roleMatches_iff.2 h, pre, post, horder, fun e he => by
    rw [Bool.not_eq_true', Bool.eq_false_iff]
    exact fun hmatch => hpre e he (Profile.roleMatches_iff.1 hmatch)⟩

/-- A present role's pin has `PIN_W` bits (R24, D3). -/
theorem isPresentRole_fits (hwf : P.failedCheck = none) {p : SerialPort} {d : Dir} (h : isPresentRole P pin p d) :
    pin < 2 ^ P.pinW := by
  obtain ⟨hpresent, rfl⟩ := h
  obtain ⟨hrx, htx⟩ := Profile.fitsPin_of_present hwf hpresent
  cases d with
  | rx => exact hrx
  | tx => exact htx

end PinRoles

/-! ### The pins of absent ports -/

section AbsentPorts

variable {P Q : Profile}

theorem Profile.roleCode_congr (h : P.roleCodes = Q.roleCodes) (p : SerialPort) (d : Dir) :
    P.roleCode p d = Q.roleCode p d := by
  cases p <;> cases d <;> simp only [Profile.roleCode, h]

/-- PTAB reads the pins of present ports alone (R26, R100). -/
theorem Profile.lookupPins_congr (hpresent : ∀ i : PortIdx, P.present i = Q.present i)
    (hpins : ∀ i : PortIdx, P.present i = true → P.pins i = Q.pins i) (id : PortId) :
    P.lookupPins id = Q.lookupPins id := by
  unfold Profile.lookupPins
  rw [← hpresent]
  exact ite_congr rfl (fun h => hpins _ h.2) fun _ => rfl

/-- PROLE compares a pin with the pins of present ports alone (R123). -/
theorem Profile.selectedRole_congr (hpresent : ∀ i : PortIdx, P.present i = Q.present i)
    (hpins : ∀ i : PortIdx, P.present i = true → P.pins i = Q.pins i) (pin : Pin) :
    P.selectedRole pin = Q.selectedRole pin := by
  have hrow : P.roleMatches pin = Q.roleMatches pin := by
    funext ⟨p, d⟩
    rw [Bool.eq_iff_iff, Profile.roleMatches_iff, Profile.roleMatches_iff, isPresentRole, isPresentRole, ← hpresent]
    refine and_congr_right fun hp => ?_
    obtain ⟨hrx, htx⟩ := PinPair.mk.inj (hpins p.idx hp)
    cases d with
    | rx => exact Eq.congr_right hrx
    | tx => exact Eq.congr_right htx
  rw [Profile.selectedRole, Profile.selectedRole, hrow]

end AbsentPorts

/-- Settles O34: both units read the pins of present ports alone, and a role that is selected has the pin. -/
theorem absentPortsPinsAreNeverRead : Obligations.AbsentPortsPinsAreNeverRead := by
  intro P Q hcodes hpresent hpins
  have hpairs (i : PortIdx) (hi : P.present i = true) : P.pins i = Q.pins i :=
    congrArg₂ PinPair.mk (hpins i hi).1 (hpins i hi).2
  refine ⟨Profile.lookupPins_congr hpresent hpairs, fun pin => ?_, fun pin hother => ?_⟩
  · rw [Profile.roleOf_eq_selected, Profile.roleOf_eq_selected, Profile.selectedRole_congr hpresent hpairs]
    cases Q.selectedRole pin with
    | none => rfl
    | some row => exact Profile.roleCode_congr hcodes row.1 row.2
  · obtain ⟨p, d, -, ⟨hp, hpin⟩, -⟩ | ⟨-, hzero⟩ := P.roleOf_cases pin
    · obtain ⟨hrx, htx⟩ := hother p hp
      cases d with
      | rx => exact absurd hpin hrx
      | tx => exact absurd hpin htx
    · exact hzero

/-! ### ROLE_OF against the Port Table -/

section LeftInverse

variable {P : Profile}

/-- Under `WF(P)` ROLE_OF gives 0 exactly for the pins of no present port, aliased or not: no role code is 0 (R126). -/
theorem Profile.roleOf_eq_zero_iff (hwf : P.failedCheck = none) {pin : Pin} :
    P.roleOf pin = 0 ↔ ∀ i : PortIdx, P.present i = true → pin ≠ P.rx i ∧ pin ≠ P.tx i := by
  refine ⟨fun hzero i hi => ?_, Profile.roleOf_eq_zero⟩
  have hnone : P.selectedRole pin = none := by
    obtain ⟨p, d, -, -, hcode⟩ | ⟨hnone, -⟩ := P.roleOf_cases pin
    · obtain ⟨hnonzero, -⟩ := roleCodesDefaultAndDistinct.2 P hwf p p d d
      exact absurd (hcode.symm.trans hzero) hnonzero
    · exact hnone
  obtain ⟨p, rfl⟩ := Profile.port_of_present hwf hi
  exact ⟨fun hrx => Profile.selectedRole_ne_none (d := .rx) ⟨hi, hrx⟩ hnone,
    fun htx => Profile.selectedRole_ne_none (d := .tx) ⟨hi, htx⟩ hnone⟩

/-- The roles of the present ports, whose pins `NO_ALIAS` compares. -/
def Profile.presentRoles (P : Profile) : List (SerialPort × Dir) :=
  (SerialPort.all.filter fun p => P.present p.idx).flatMap fun p => [(p, .rx), (p, .tx)]

theorem Profile.mem_presentRoles {p : SerialPort} (d : Dir) (hp : P.present p.idx = true) :
    (p, d) ∈ P.presentRoles := by
  have hall : p ∈ SerialPort.all := by cases p <;> decide
  refine List.mem_flatMap.2 ⟨p, List.mem_filter.2 ⟨hall, hp⟩, ?_⟩
  cases d <;> simp

theorem Profile.noAlias_iff_nodup_map :
    P.NoAlias ↔ (P.presentRoles.map fun role => P.pinOf role.1 role.2).Nodup := by
  rw [Profile.presentRoles, List.map_flatMap]
  exact Iff.rfl

/-- `NO_ALIAS` on roles: two present roles with one pin are the same role. -/
theorem Profile.NoAlias.role_eq (h : P.NoAlias) {p q : SerialPort} {d e : Dir} (hp : P.present p.idx = true)
    (hq : P.present q.idx = true) (hpin : P.pinOf p d = P.pinOf q e) : (p, d) = (q, e) :=
  List.inj_on_of_nodup_map (Profile.noAlias_iff_nodup_map.1 h) (Profile.mem_presentRoles d hp)
    (Profile.mem_presentRoles e hq) hpin

/-- Under `NO_ALIAS` the pin of a present role gets that role's code (R126). -/
theorem Profile.roleOf_pinOf_of_noAlias (h : P.NoAlias) {p : SerialPort} (hp : P.present p.idx = true) (d : Dir) :
    P.roleOf (P.pinOf p d) = P.roleCode p d := by
  obtain ⟨q, e, -, ⟨hq, hpin⟩, hcode⟩ | ⟨hnone, -⟩ := P.roleOf_cases (P.pinOf p d)
  · obtain ⟨rfl, rfl⟩ := Prod.mk.inj (h.role_eq hp hq hpin)
    exact hcode
  · exact absurd hnone (Profile.selectedRole_ne_none ⟨hp, rfl⟩)

/-- The roles before a port's receive role are those of lower ports (R121). -/
theorem rolePriority_before_rx (p : SerialPort) :
    ∃ pre post, rolePriority = pre ++ (p, .rx) :: post ∧ ∀ e ∈ pre, e.1.idx < p.idx := by
  cases p with
  | one => exact ⟨[], _, rfl, by decide⟩
  | two => exact ⟨[(.one, .rx), (.one, .tx)], _, rfl, by decide⟩
  | three => exact ⟨[(.one, .rx), (.one, .tx), (.two, .rx), (.two, .tx)], _, rfl, by decide⟩

/-- The receive pin of the lowest present port gets its own code, aliased or not: only absent ports come before it
(R126). -/
theorem Profile.roleOf_rx_of_lowest {p : SerialPort} (hp : P.present p.idx = true)
    (hlowest : ∀ q : SerialPort, q.idx < p.idx → P.present q.idx = false) :
    P.roleOf (P.rx p.idx) = P.roleCode p .rx := by
  obtain ⟨pre, post, horder, hlower⟩ := rolePriority_before_rx p
  refine Profile.roleOf_of_selectedRole (Profile.selectedRole_of_earliest horder (fun e he hrole => ?_) ⟨hp, rfl⟩)
  exact Bool.false_ne_true ((hlowest e.1 (hlower e he)).symm.trans hrole.1)

/-- A pin that is an earlier present role's selects one of the earlier roles (R122). -/
theorem Profile.selectedRole_mem_of_earlier {pin : Pin} {pre post : List (SerialPort × Dir)}
    (horder : rolePriority = pre ++ post) (h : ∃ e ∈ pre, isPresentRole P pin e.1 e.2) :
    ∃ row ∈ pre, P.selectedRole pin = some row := by
  obtain ⟨e, he, hrole⟩ := h
  have hsome : (pre.find? (P.roleMatches pin)).isSome :=
    List.find?_isSome.2 ⟨e, he, Profile.roleMatches_iff.2 hrole⟩
  obtain ⟨row, hrow⟩ := Option.isSome_iff_exists.1 hsome
  refine ⟨row, List.mem_of_find?_eq_some hrow, ?_⟩
  rw [Profile.selectedRole, horder, List.find?_append, hrow, Option.some_or]

/-- A role whose pin an earlier present role has does not get its own code: the codes differ (R122, R126). -/
theorem Profile.roleOf_ne_of_earlier (hwf : P.failedCheck = none) {pin : Pin}
    {pre post : List (SerialPort × Dir)} {p : SerialPort} {d : Dir} (horder : rolePriority = pre ++ (p, d) :: post)
    (h : ∃ e ∈ pre, isPresentRole P pin e.1 e.2) : P.roleOf pin ≠ P.roleCode p d := by
  obtain ⟨⟨q, e⟩, hmem, hselected⟩ := Profile.selectedRole_mem_of_earlier horder h
  intro hcode
  rw [Profile.roleOf_of_selectedRole hselected] at hcode
  obtain ⟨rfl, rfl⟩ := (roleCodesDefaultAndDistinct.2 P hwf q p e d).2 hcode
  have hnodup : (pre ++ (q, e) :: post).Nodup := horder ▸ by decide
  exact (List.nodup_append.1 hnodup).2.2 _ hmem _ List.mem_cons_self rfl

end LeftInverse

/-- Settles O35: a present port's identifier gives the port's own pins, so each part is a fact on the pins of roles. -/
theorem roleOfIsLeftInverseOfLookup : Obligations.RoleOfIsLeftInverseOfLookup := by
  intro P hwf
  have hpair {p : SerialPort} (hp : P.present p.idx = true) : P.lookupPins p.id = P.pins p.idx := by
    rw [Profile.lookupPins_id, if_pos hp]
  refine ⟨fun halias => ⟨fun p hp => ?_, fun pin => Profile.roleOf_eq_zero_iff hwf⟩, fun p hp hlowest => ?_,
    fun pre post p d horder => Profile.roleOf_ne_of_earlier hwf horder⟩
  · rw [hpair hp]
    exact ⟨Profile.roleOf_pinOf_of_noAlias halias hp .rx, Profile.roleOf_pinOf_of_noAlias halias hp .tx⟩
  · rw [hpair hp]
    exact Profile.roleOf_rx_of_lowest hp hlowest

namespace Machine

/-- Settles O32: every row of PROLE drives what ROLE_OF gives the row's pin. -/
theorem roleRowsRefinePseudocode : Obligations.RoleRowsRefinePseudocode := by
  intro i pin s hi hc
  rw [exec_of_configured hc, hi]
  rfl

/-- Settles O33: the earliest present role is the selected one, so the decoder picks its row and PROLE drives its
code. -/
theorem earliestRoleWins : Obligations.EarliestRoleWins := by
  intro s pin pre post p d hc horder hpre hrole
  have hselected : s.profile.selectedRole pin = some (p, d) := Profile.selectedRole_of_earliest horder hpre hrole
  have hd : decode s.profile (.pin pin) = .ok (Instr.ofRole p d pin) :=
    decode_encode_ofRole (selectedBy_ofRole_iff.2 ⟨isPresentRole_fits hc hrole, hselected⟩)
  exact ⟨hd, _, exec_of_decode_ok hc hd, Profile.roleOf_of_selectedRole hselected⟩

/-- Settles O36: both executions drive the pin's word, which leaves the profile, and ROLE_OF gives a selected role's
code or 0. -/
theorem roleOutputIsZeroOrARoleCode : Obligations.RoleOutputIsZeroOrARoleCode := by
  intro s pin hc hfits
  have hd : decode s.profile (.pin pin) = .ok (decodePin s.profile pin) := decode_pin_eq_ok.2 ⟨hfits, rfl⟩
  refine ⟨_, _, _, hd, exec_of_decode_ok hc hd, exec_of_decode_ok (State.configured_driveWord.2 hc) hd, rfl, ?_⟩
  obtain ⟨p, d, -, -, hcode⟩ | ⟨-, hzero⟩ := s.profile.roleOf_cases pin
  · exact .inr ⟨p, d, hcode⟩
  · exact .inl hzero

end Machine

end Sys2Proof

/-! Which options words get a token of their own (42_line_config.md R140 to R149): those of a recognised triple whose
token is defined. Every other word gets `T_8N1`. -/

namespace Sys2Proof

/-! ### Recognised fields and triples -/

section OwnTokens

variable {P : Profile} {o : LineOptions} {p : Parity} {s : StopBits} {d : DataBits}

/-- Every field of the word holds a code of its recognised set (R140, R142). -/
def Profile.fieldsOk (P : Profile) (o : LineOptions) : Bool :=
  P.parityOk (parityField o) && stopOk (stopField o) && dataOk (dataField o)

/-- A triple row's words have recognised fields exactly when the row's condition on the parity holds. -/
theorem Profile.fieldsOk_of_tripleOf (h : tripleOf o = some (p, s, d)) : P.fieldsOk o = P.recognises p := by
  rw [← optionsWord_of_tripleOf h, Profile.fieldsOk, parityField_optionsWord, stopField_optionsWord,
    dataField_optionsWord, Profile.codesOk]

theorem Profile.fieldsOk_eq_false_iff :
    P.fieldsOk o = false ↔
      P.parityOk (parityField o) = false ∨ stopOk (stopField o) = false ∨ dataOk (dataField o) = false := by
  simp only [Profile.fieldsOk, Bool.and_eq_false_iff, or_assoc]

/-- A triple row gives its words the row's token. -/
theorem Profile.encode_of_tripleOf (h : tripleOf o = some (p, s, d)) : P.encode o = P.rowToken p s d := by
  rw [← optionsWord_of_tripleOf h, Profile.encode_optionsWord]

theorem ownToken_of_tripleOf (h : tripleOf o = some (p, s, d)) :
    ownToken P o = (P.recognises p && (P.token p s d).isSome) := by
  rw [ownToken, h]

theorem ownToken_of_tripleOf_none (h : tripleOf o = none) : ownToken P o = false := by
  rw [ownToken, h]

/-- A field that is not recognised makes the word a fallback (R142). -/
theorem ownToken_of_fieldsOk_eq_false (h : P.fieldsOk o = false) : ownToken P o = false := by
  cases ht : tripleOf o with
  | none => exact ownToken_of_tripleOf_none ht
  | some key => rw [ownToken_of_tripleOf ht, ← Profile.fieldsOk_of_tripleOf ht, h, Bool.false_and]

/-- Where every recognised key is defined, the words with recognised fields are those with a token of their own. -/
theorem ownToken_eq_fieldsOk (hall : ∀ p s d, P.recognises p = true → (P.token p s d).isSome) (o : LineOptions) :
    ownToken P o = P.fieldsOk o := by
  cases hf : P.fieldsOk o with
  | false => exact ownToken_of_fieldsOk_eq_false hf
  | true =>
    obtain ⟨⟨p, s, d⟩, ht⟩ := Option.isSome_iff_exists.1 (Profile.triple_of_codesOk hf)
    have hp : P.recognises p = true := (Profile.fieldsOk_of_tripleOf ht).symm.trans hf
    rw [ownToken_of_tripleOf ht, hp, hall p s d hp, Bool.true_and]

/-- A word with a token of its own gets it. -/
theorem Profile.token_eq_encode (ht : tripleOf o = some (p, s, d)) (h : ownToken P o = true) :
    P.token p s d = some (P.encode o) := by
  rw [ownToken_of_tripleOf ht, Bool.and_eq_true] at h
  obtain ⟨hp, hsome⟩ := h
  obtain ⟨token, htoken⟩ := Option.isSome_iff_exists.1 hsome
  rw [Profile.encode_of_tripleOf ht, Profile.rowToken, if_pos hp, htoken, Option.getD_some]

/-- Every fallback gets the default token (R142). -/
theorem Profile.encode_of_ownToken_eq_false (h : ownToken P o = false) : P.encode o = P.defaultToken := by
  cases ht : tripleOf o with
  | none => exact Profile.encode_of_tripleOf_none ht
  | some key =>
    obtain ⟨p, s, d⟩ := key
    rw [ownToken_of_tripleOf ht, Bool.and_eq_false_iff, Option.isSome_eq_false_iff, Option.isNone_iff_eq_none] at h
    rw [Profile.encode_of_tripleOf ht, Profile.rowToken]
    obtain hp | hnone := h
    · rw [hp, if_neg Bool.false_ne_true]
    · rw [hnone, Option.getD_none, ite_self]

/-- Under `WF(P)` a word with a field that is not recognised gets the token of 8N1 (R142). -/
theorem Profile.encode_of_fieldsOk_eq_false (hwf : P.failedCheck = none) (h : P.fieldsOk o = false) :
    some (P.encode o) = P.token .noParity .one .eight := by
  rw [Profile.token_default hwf, Profile.encode_of_ownToken_eq_false (ownToken_of_fieldsOk_eq_false h)]

/-- The word 0x0100 requests the default itself (R147). -/
theorem Profile.encode_8N1 (P : Profile) : P.encode 0x0100 = P.defaultToken := by
  have hword : tripleOf 0x0100 = some (.noParity, .one, .eight) := rfl
  rw [Profile.encode_of_tripleOf hword, Profile.rowToken, if_pos (show P.recognises .noParity = true from rfl),
    Profile.defaultToken]
  cases P.token .noParity .one .eight <;> rfl

/-- A row's condition on the parity fails exactly for the extended rows without the capability (R143, R149). -/
theorem Profile.recognises_eq_false_iff :
    P.recognises p = false ↔ (p = .mark ∨ p = .space) ∧ P.extParity = false := by
  cases p <;> simp [Profile.recognises]

/-- With extended parity every parity of the table is recognised (R143). -/
theorem Profile.recognises_of_extParity (h : P.extParity = true) (p : Parity) : P.recognises p = true := by
  cases p with
  | noParity | even | odd => rfl
  | mark | space => exact h

end OwnTokens

/-! ### The ignored bits -/

theorem toNat_and_0x01FF (o : LineOptions) : (o &&& 0x01FF).toNat = o.toNat % 512 := by
  rw [BitVec.toNat_and]
  exact Nat.and_two_pow_sub_one_eq_mod o.toNat 9

/-- Masking with 0x01FF clears the ignored bits and nothing else (R71, R145). -/
theorem and_0x01FF_eq_append (o : LineOptions) :
    o &&& 0x01FF = 0#7 ++ dataField o ++ parityField o ++ stopField o := by
  have ho := o.isLt
  apply BitVec.eq_of_toNat_eq
  rw [toNat_and_0x01FF]
  simp only [dataField, parityField, stopField, BitVec.extractLsb'_toNat, toNat_append_add,
    Nat.shiftRight_eq_div_pow, BitVec.toNat_ofNat]
  omega

/-- The three fields that LCE reads are those of the masked word. -/
theorem fields_and_0x01FF (o : LineOptions) :
    dataField (o &&& 0x01FF) = dataField o ∧ parityField (o &&& 0x01FF) = parityField o ∧
      stopField (o &&& 0x01FF) = stopField o := by
  rw [and_0x01FF_eq_append]
  exact (fields_append 0 (dataField o) (parityField o) (stopField o)).2

theorem tripleOf_and_0x01FF (o : LineOptions) : tripleOf (o &&& 0x01FF) = tripleOf o := by
  obtain ⟨hd, hp, hs⟩ := fields_and_0x01FF o
  rw [tripleOf, hd, hp, hs, ← tripleOf]

theorem Profile.fieldsOk_and_0x01FF (P : Profile) (o : LineOptions) : P.fieldsOk (o &&& 0x01FF) = P.fieldsOk o := by
  obtain ⟨hd, hp, hs⟩ := fields_and_0x01FF o
  rw [Profile.fieldsOk, hd, hp, hs, ← Profile.fieldsOk]

/-- A word falls under a triple row exactly when its low part is the triple's word. -/
theorem tripleOf_eq_some_iff {o : LineOptions} {p : Parity} {s : StopBits} {d : DataBits} :
    tripleOf o = some (p, s, d) ↔ o &&& 0x01FF = optionsWord 0 p s d := by
  constructor
  · intro h
    rw [← optionsWord_of_tripleOf h, and_0x01FF_eq_append, dataField_optionsWord, parityField_optionsWord,
      stopField_optionsWord]
    rfl
  · intro h
    rw [← tripleOf_and_0x01FF, h, tripleOf_optionsWord]

/-- Settles O23: ENCODE reads three fields, and the mask keeps each. -/
theorem ignoredBitsDoNotMatter : Obligations.IgnoredBitsDoNotMatter := by
  intro P o
  obtain ⟨hd, hp, hs⟩ := fields_and_0x01FF o
  rw [Profile.encode, Profile.encode, hd, hp, hs]

/-- Settles O25: both requests get the default token. -/
theorem defaultRequestLooksLikeFallback : Obligations.DefaultRequestLooksLikeFallback := by
  intro P o
  rw [P.encode_8N1]
  exact ⟨Profile.token_default, Profile.encode_of_ownToken_eq_false⟩

/-! ### How many words have a token of their own -/

/-- Numbers below `a * b` are counted by quotient and remainder when the two are tested apart. -/
theorem countP_range_mul (f g : Nat → Bool) (a b : Nat) :
    ((List.range (a * b)).countP fun n => f (n / b) && g (n % b)) =
      (List.range a).countP f * (List.range b).countP g := by
  induction a with
  | zero => simp
  | succ a ih =>
    have hblock : ((List.range b).countP fun k => f ((a * b + k) / b) && g ((a * b + k) % b)) =
        (List.range b).countP fun k => f a && g k := by
      refine List.countP_congr fun k hk => ?_
      have hkb : k < b := List.mem_range.1 hk
      rw [Nat.mul_comm a b, Nat.mul_add_div (Nat.zero_lt_of_lt hkb), Nat.div_eq_of_lt hkb, Nat.mul_add_mod,
        Nat.mod_eq_of_lt hkb, Nat.add_zero]
    rw [Nat.succ_mul, List.range_add, List.countP_append, ih, List.countP_map, List.range_succ, List.countP_append,
      Nat.add_mul]
    refine congrArg _ (hblock.trans ?_)
    cases hf : f a <;> simp [hf]

/-- The three fields of a number's word, read off the number (R71). -/
theorem fields_ofNat (n : Nat) :
    dataField (BitVec.ofNat 16 n) = BitVec.ofNat 4 (n / 32) ∧
      parityField (BitVec.ofNat 16 n) = BitVec.ofNat 3 (n % 32 / 4) ∧
      stopField (BitVec.ofNat 16 n) = BitVec.ofNat 2 (n % 32 % 4) := by
  refine ⟨?_, ?_, ?_⟩ <;> apply BitVec.eq_of_toNat_eq <;>
    simp only [dataField, parityField, stopField, BitVec.extractLsb'_toNat, BitVec.toNat_ofNat,
      Nat.shiftRight_eq_div_pow] <;> omega

section RecognisedWords

variable (P : Profile)

/-- R74 has three codes, and five with extended parity. -/
theorem Profile.countP_parityOk :
    ((List.range 8).countP fun c => P.parityOk (BitVec.ofNat 3 c)) = if P.extParity then 5 else 3 := by
  simp only [Profile.parityOk]
  cases P.extParity <;> rfl

/-- Of the 512 values of the three fields, four data codes, two stop codes and the parity codes are recognised
(R150). -/
theorem Profile.countP_fieldsOk_512 :
    ((List.range 512).countP fun n => P.fieldsOk (BitVec.ofNat 16 n)) = if P.extParity then 40 else 24 := by
  have hfields (n : Nat) : P.fieldsOk (BitVec.ofNat 16 n) = (dataOk (BitVec.ofNat 4 (n / 32)) &&
      (P.parityOk (BitVec.ofNat 3 (n % 32 / 4)) && stopOk (BitVec.ofNat 2 (n % 32 % 4)))) := by
    obtain ⟨hd, hp, hs⟩ := fields_ofNat n
    rw [Profile.fieldsOk, hd, hp, hs, Bool.and_comm]
  have hdata : ((List.range 16).countP fun c => dataOk (BitVec.ofNat 4 c)) = 4 := rfl
  have hstop : ((List.range 4).countP fun c => stopOk (BitVec.ofNat 2 c)) = 2 := rfl
  simp only [hfields]
  rw [countP_range_mul (fun c => dataOk (BitVec.ofNat 4 c))
      (fun r => P.parityOk (BitVec.ofNat 3 (r / 4)) && stopOk (BitVec.ofNat 2 (r % 4))) 16 32,
    countP_range_mul (fun c => P.parityOk (BitVec.ofNat 3 c)) (fun c => stopOk (BitVec.ofNat 2 c)) 8 4,
    hdata, hstop, P.countP_parityOk]
  cases P.extParity <;> rfl

/-- Each recognised value of the three fields has 128 words (R150). -/
theorem Profile.countP_fieldsOk_65536 :
    ((List.range 65536).countP fun n => P.fieldsOk (BitVec.ofNat 16 n)) = if P.extParity then 5120 else 3072 := by
  have hlow (n : Nat) : P.fieldsOk (BitVec.ofNat 16 n) = (true && P.fieldsOk (BitVec.ofNat 16 (n % 512))) := by
    have hmask : BitVec.ofNat 16 n &&& 0x01FF = BitVec.ofNat 16 (n % 512) := by
      apply BitVec.eq_of_toNat_eq
      rw [toNat_and_0x01FF, BitVec.toNat_ofNat, BitVec.toNat_ofNat]
      omega
    rw [← P.fieldsOk_and_0x01FF, hmask, Bool.true_and]
  rw [funext hlow, countP_range_mul (fun _ => true) (fun r => P.fieldsOk (BitVec.ofNat 16 r)) 128 512,
    P.countP_fieldsOk_512, List.countP_true, List.length_range]
  cases P.extParity <;> rfl

end RecognisedWords

/-- Settles O26: the words with a token of their own are those with recognised fields, which are counted field by
field. -/
theorem recognisedSetSize : Obligations.RecognisedSetSize := by
  intro P hall
  have hdefault : P.token .noParity .one .eight = some P.defaultToken := by
    obtain ⟨token, htoken⟩ := Option.isSome_iff_exists.1 (hall .noParity .one .eight rfl)
    rw [Profile.defaultToken, htoken, Option.getD_some]
  refine ⟨?_, ?_, fun o p s d => Profile.token_eq_encode, fun o hown => ?_⟩
  · simp only [ownToken_eq_fieldsOk hall, P.countP_fieldsOk_512]
  · simp only [ownToken_eq_fieldsOk hall, P.countP_fieldsOk_65536]
  · rw [hdefault, Profile.encode_of_ownToken_eq_false hown]

/-! ### The decision table -/

/-- R149 lists the 40 triples' words with the ignored bits clear. -/
theorem eq_optionsWord_of_mem_lineOptTable :
    ∀ e ∈ lineOptTable, e.1 = optionsWord 0 e.2.1 e.2.2.1 e.2.2.2 := by
  decide

theorem mem_lineOptTable (p : Parity) (s : StopBits) (d : DataBits) :
    (optionsWord 0 p s d, p, s, d) ∈ lineOptTable := by
  cases p <;> cases s <;> cases d <;> decide

/-- A word whose low part is not listed falls under no triple row. -/
theorem tripleOf_eq_none_of_not_listed {o : LineOptions} (h : ∀ e ∈ lineOptTable, o &&& 0x01FF ≠ e.1) :
    tripleOf o = none :=
  Option.eq_none_iff_forall_ne_some.2 fun ⟨p, s, d⟩ ht =>
    h _ (mem_lineOptTable p s d) (tripleOf_eq_some_iff.1 ht)

namespace Machine

/-- Settles O18: every row of LCE drives what ENCODE gives the row's word. -/
theorem encodeRowsRefinePseudocode : Obligations.EncodeRowsRefinePseudocode := by
  intro i o s hi hc
  rw [exec_of_configured hc, hi]
  rfl

/-- Settles O19: a listed low part is its triple's word, and any other word falls under no triple row. -/
theorem decisionTableGivesTheToken : Obligations.DecisionTableGivesTheToken := by
  refine fun s o hc => ⟨_, _, s.profile.defaultToken, rfl, exec_of_decode_ok (w := .lineOpt o) hc rfl,
    Profile.token_default hc, fun e he hlow => ?_,
    fun hother => Profile.encode_of_tripleOf_none (tripleOf_eq_none_of_not_listed hother)⟩
  have ht : tripleOf o = some e.2 := tripleOf_eq_some_iff.2 (hlow.trans (eq_optionsWord_of_mem_lineOptTable e he))
  rw [State.driveWord, State.driveLce_cfg, Profile.encode_of_tripleOf ht, Profile.rowToken]
  simp only [← Profile.recognises_eq_false_iff]
  cases s.profile.recognises e.2.1 <;> rfl

/-- Settles O20: each kind of fallback leaves the word no token of its own, and the word drives LCE alone. -/
theorem unsupportedOptionsGiveTheDefault : Obligations.UnsupportedOptionsGiveTheDefault := by
  intro s o T8N1 hc hT8N1 hfallback
  have hown : ownToken s.profile o = false := by
    obtain hfield | ⟨p, st, d, ht, hnone⟩ := hfallback
    · exact ownToken_of_fieldsOk_eq_false (Profile.fieldsOk_eq_false_iff.2 hfield)
    · rw [ownToken_of_tripleOf ht, hnone, Option.isSome_none, Bool.and_false]
  have hdefault : s.profile.defaultToken = T8N1 := Option.some.inj ((Profile.token_default hc).symm.trans hT8N1)
  exact ⟨_, _, rfl, exec_of_decode_ok (w := .lineOpt o) hc rfl,
    (Profile.encode_of_ownToken_eq_false hown).trans hdefault, rfl, rfl, rfl⟩

/-- Settles O21: without the capability the codes make the word a fallback, and with it every parity is recognised. -/
theorem extendedParityNeedsTheCapability : Obligations.ExtendedParityNeedsTheCapability := by
  intro s o hc hcode
  refine ⟨_, _, rfl, exec_of_decode_ok (w := .lineOpt o) hc rfl, fun hext => ?_, fun hext p st d c ht htoken => ?_⟩
  · have hparity : s.profile.parityOk (parityField o) = false := by
      obtain h | h := hcode <;> rw [h, Profile.parityOk, hext] <;> rfl
    exact Profile.encode_of_fieldsOk_eq_false hc (Profile.fieldsOk_eq_false_iff.2 (.inl hparity))
  · have hown : ownToken s.profile o = true := by
      rw [ownToken_of_tripleOf ht, Profile.recognises_of_extParity hext, htoken]
      rfl
    exact Option.some.inj ((Profile.token_eq_encode ht hown).symm.trans htoken)

/-- Settles O22: stop code 1 is not recognised. -/
theorem onePointFiveStopBitsGiveTheDefault : Obligations.OnePointFiveStopBitsGiveTheDefault := by
  intro s x d p hc
  have hstop : stopOk (stopField (x ++ d ++ p ++ 1#2)) = false := by
    obtain ⟨-, -, -, hs⟩ := fields_append x d p 1#2
    rw [hs]
    rfl
  exact ⟨_, _, rfl, exec_of_decode_ok (w := .lineOpt (x ++ d ++ p ++ 1#2)) hc rfl,
    Profile.encode_of_fieldsOk_eq_false hc (Profile.fieldsOk_eq_false_iff.2 (.inr (.inl hstop)))⟩

/-- Settles O24: every row completes, and ENCODE gives a token of the table at a recognised key. -/
theorem encodeIsTotalOnRecognisedTokens : Obligations.EncodeIsTotalOnRecognisedTokens := by
  intro s o hc
  obtain ⟨p, st, d, hp, htoken⟩ := Profile.encode_eq_token hc o
  exact ⟨_, _, p, st, d, rfl, exec_of_decode_ok (w := .lineOpt o) hc rfl, hp, htoken⟩

end Machine

end Sys2Proof

/-! The step as the execution of the decoded operation (60_exceptions.md R182). -/

namespace Sys2Proof.Machine

/-- Settles O8: on a word that decodes, the step and the decoded row's execution both drive that word on the state that
holds the later operations. -/
theorem stepRunsDecodedInstruction : Obligations.StepRunsDecodedInstruction := by
  intro s w rest i hc hr hd
  have hstep : step s = .next ({ s with requests := rest }.driveWord w) := step_of_decode_ok hc hr hd
  have hexec : exec i { s with requests := rest } = .next ({ s with requests := rest }.driveWord w) :=
    exec_of_decode_ok (s := { s with requests := rest }) hc hd
  exact hstep.trans hexec.symm

end Sys2Proof.Machine

/-! The state after reset, the base of the invariants, and the step that has nothing to present (10_state.md R36,
R190). -/

namespace Sys2Proof.Machine

/-- TP_A with the AVR example tokens passes `WF` and fits its widths (R30). -/
theorem failedCheck_resetProfile : Config.resetProfile.failedCheck = none := by decide

theorem State.inv_powerUp {P : Profile} (h : P.failedCheck = none) : (State.powerUp P).Inv :=
  ⟨h, State.settled_powerUp P⟩

theorem State.powerUp_samples_produced (P : Profile) : ∀ o ∈ (State.powerUp P).samples, outputProduced P o := by
  rw [State.powerUp_samples]
  exact List.forall_mem_nil _

/-- Settles O4: reset powers up a profile that passes its checks. -/
theorem resetMeetsInvariant : Obligations.ResetMeetsInvariant :=
  ⟨State.inv_powerUp failedCheck_resetProfile, State.withinWidths_powerUp failedCheck_resetProfile,
    State.powerUp_samples_produced Config.resetProfile⟩

/-- A configured block to which nothing is presented holds its state. -/
theorem step_of_requests_nil {s : State} (hc : s.Configured) (hr : s.requests = []) : step s = .next s := by
  simp only [step, show s.profile.failedCheck = none from hc, State.fetch_nil s hr]

/-- Settles O9: there is nothing to fetch, so the step idles. -/
theorem stepWithoutRequestHoldsState : Obligations.StepWithoutRequestHoldsState :=
  fun _ => step_of_requests_nil

end Sys2Proof.Machine
